-- ==== Sys2Proof/Word.lean ====
section
/-! DEFINITION. Bytes, bit strings and the small closed types of G4Enc CORE (00_scope.md R6 to R8). -/

namespace Sys2Proof

/-- A byte; bit 7 is its most significant bit (R6). -/
abbrev Byte := BitVec 8

/-- A bit string written left to right; the leftmost bit enters the output stream first (R7). -/
abbrev Bits := List Bool

/-- Colours: `WHITE = 0`, `BLACK = 1` (R8). -/
inductive Colour where
  | white
  | black
deriving DecidableEq, Repr, Inhabited

/-- CFG.BIT_ORDER: 0 = MSB_FIRST, 1 = LSB_FIRST (R23). -/
inductive BitOrder where
  | msbFirst
  | lsbFirst
deriving DecidableEq, Repr, Inhabited

/-- CFG.SINK: 0 = FIXED, 1 = STREAM (R24). -/
inductive SinkKind where
  | fixed
  | stream
deriving DecidableEq, Repr, Inhabited

/-- What the sink does with a SinkPush (R63): it answers OK or FAIL, or never answers
(93_implementation_defined.md U11). -/
inductive SinkReply where
  | ok
  | fail
  | silent
deriving DecidableEq, Repr, Inhabited

/-- The nine coding modes (R95). -/
inductive Mode where
  | pass
  | horizontal
  | v0
  | vr1
  | vr2
  | vr3
  | vl1
  | vl2
  | vl3
deriving DecidableEq, Repr, Inhabited

/-- A run-length codeword by name: terminating code of a colour (R101, R102), makeup code for
`64 * k` pixels of a colour (R103, R104), extended makeup code for `64 * k` pixels (R106). -/
inductive RunCode where
  | term (c : Colour) (t : Nat)
  | makeup (c : Colour) (k : Nat)
  | ext (k : Nat)
deriving DecidableEq, Repr, Inhabited

/-- A codeword of the output stream by name (R90): mode, run-length or EOL. -/
inductive Codeword where
  | mode (m : Mode)
  | run (r : RunCode)
  | eol
deriving DecidableEq, Repr, Inhabited

/-- The error kinds of R250, as `rc` and as ERR; the first is SUCCESS as rc and NONE as ERR. -/
inductive ErrKind where
  | success
  | notInitialized
  | invalidParameter
  | dataOverflow
  | imageComplete
  | ioError
deriving DecidableEq, Repr, Inhabited

/-- The session states of R26. -/
inductive SessionState where
  | uninit
  | initialized
  | encoding
  | complete
  | failed
deriving DecidableEq, Repr, Inhabited

/-- The design-time parameters left OPEN by R4. -/
structure Params where
  /-- MAX_TRANSITIONS: the largest legal WIDTH. -/
  maxTransitions : Nat
  /-- EOFB: whether the end-of-facsimile block is appended. -/
  eofb : Bool
  /-- SEG_SIZE: bytes in the staging segment. -/
  segSize : Nat
deriving DecidableEq, Repr, Inhabited

end Sys2Proof
end

