-- ==== Sys2Proof/Config.lean ====
section
/-! DEFINITION. The design-time parameters of 00_scope.md R4, and the free values: opaque constants for every
value the spec calls unspecified. Nothing can be proved of a free value, so a claim holds for each. -/

namespace Sys2Proof.Config

/-- The defaults of the parameters left OPEN (R4): MAX_TRANSITIONS = 1024, EOFB = false, SEG_SIZE = 1. -/
def defaultParams : Params := { maxTransitions := 1024, eofb := false, segSize := 1 }

/-- WHITE_VALUE: the pixel bit value that means white (R4). -/
def whiteValue : Bool := false

/-- TB_CAP: the entries of each transition buffer (R4). -/
def tbCap (p : Params) : Nat := p.maxTransitions + 1

/-- COUNT_W: the width of COUNT (R4). -/
def countWidth : Nat := 32

/-- CODE_MAX: the longest codeword, in bits (R4). -/
def codeMax : Nat := 13

/-- Unspecified CFG.WIDTH (R44). -/
opaque freeWidth : Nat → BitVec 16
/-- Unspecified CFG.HEIGHT (R44). -/
opaque freeHeight : Nat → BitVec 32
/-- Unspecified CFG.BIT_ORDER (R44). -/
opaque freeBitOrder : Nat → BitOrder
/-- Unspecified CFG.SINK (R44). -/
opaque freeSink : Nat → SinkKind
/-- Unspecified CFG.CAP (R44). -/
opaque freeCap : Nat → BitVec 32
/-- Unspecified ROWS (R44, R259). -/
opaque freeRows : Nat → BitVec 32
/-- Unspecified ACC (R44, R259). -/
opaque freeAcc : Nat → BitVec 8
/-- Unspecified NB (R44, R259). -/
opaque freeNb : Nat → BitVec 3
/-- Unspecified STG and STGN (R44, R259). -/
opaque freeStg : Nat → List Byte
/-- Unspecified TB[0] and TL[0] (R44, R259). -/
opaque freeTb0 : Nat → List Nat
/-- Unspecified TB[1] and TL[1] (R44, R259). -/
opaque freeTb1 : Nat → List Nat
/-- Unspecified REFSEL (R44, R259). -/
opaque freeRefsel : Nat → Bool
/-- Unspecified A0 (R44, R259). -/
opaque freeA0 : Nat → Int
/-- Unspecified COLOR (R44, R259). -/
opaque freeColour : Nat → Colour
/-- The answer of the sink to a SinkPush for which the environment's list holds none (R63). -/
opaque freeReply : Nat → SinkReply

end Sys2Proof.Config
end

