-- ==== Sys2Proof/Syntax.lean ====
section
/-! DEFINITION. The operations of G4Enc CORE: one constructor per row of spec/opcode_table.json, in its order. -/

namespace Sys2Proof

/-- The operations of 00_scope.md R14: coding steps (R176 to R184), run-length codewords (R152 to R156), EOL (R107),
host commands (R110), micro-operations (R130 to R224) and the hardware reset line (R227). -/
inductive Instr where
  | p
  | h
  | v0
  | vr1
  | vr2
  | vr3
  | vl1
  | vl2
  | vl3
  | wt0
  | wt1
  | wt2
  | wt3
  | wt4
  | wt5
  | wt6
  | wt7
  | wt8
  | wt9
  | wt10
  | wt11
  | wt12
  | wt13
  | wt14
  | wt15
  | wt16
  | wt17
  | wt18
  | wt19
  | wt20
  | wt21
  | wt22
  | wt23
  | wt24
  | wt25
  | wt26
  | wt27
  | wt28
  | wt29
  | wt30
  | wt31
  | wt32
  | wt33
  | wt34
  | wt35
  | wt36
  | wt37
  | wt38
  | wt39
  | wt40
  | wt41
  | wt42
  | wt43
  | wt44
  | wt45
  | wt46
  | wt47
  | wt48
  | wt49
  | wt50
  | wt51
  | wt52
  | wt53
  | wt54
  | wt55
  | wt56
  | wt57
  | wt58
  | wt59
  | wt60
  | wt61
  | wt62
  | wt63
  | bt0
  | bt1
  | bt2
  | bt3
  | bt4
  | bt5
  | bt6
  | bt7
  | bt8
  | bt9
  | bt10
  | bt11
  | bt12
  | bt13
  | bt14
  | bt15
  | bt16
  | bt17
  | bt18
  | bt19
  | bt20
  | bt21
  | bt22
  | bt23
  | bt24
  | bt25
  | bt26
  | bt27
  | bt28
  | bt29
  | bt30
  | bt31
  | bt32
  | bt33
  | bt34
  | bt35
  | bt36
  | bt37
  | bt38
  | bt39
  | bt40
  | bt41
  | bt42
  | bt43
  | bt44
  | bt45
  | bt46
  | bt47
  | bt48
  | bt49
  | bt50
  | bt51
  | bt52
  | bt53
  | bt54
  | bt55
  | bt56
  | bt57
  | bt58
  | bt59
  | bt60
  | bt61
  | bt62
  | bt63
  | wm64
  | wm128
  | wm192
  | wm256
  | wm320
  | wm384
  | wm448
  | wm512
  | wm576
  | wm640
  | wm704
  | wm768
  | wm832
  | wm896
  | wm960
  | wm1024
  | wm1088
  | wm1152
  | wm1216
  | wm1280
  | wm1344
  | wm1408
  | wm1472
  | wm1536
  | wm1600
  | wm1664
  | wm1728
  | bm64
  | bm128
  | bm192
  | bm256
  | bm320
  | bm384
  | bm448
  | bm512
  | bm576
  | bm640
  | bm704
  | bm768
  | bm832
  | bm896
  | bm960
  | bm1024
  | bm1088
  | bm1152
  | bm1216
  | bm1280
  | bm1344
  | bm1408
  | bm1472
  | bm1536
  | bm1600
  | bm1664
  | bm1728
  | xm1792
  | xm1856
  | xm1920
  | xm1984
  | xm2048
  | xm2112
  | xm2176
  | xm2240
  | xm2304
  | xm2368
  | xm2432
  | xm2496
  | xm2560
  | eol
  | init (width : BitVec 16) (height : BitVec 32) (bitOrder : BitVec 8) (sink : BitVec 8) (cap : BitVec 32)
  | addLine (line : List Byte)
  | getOutputSize
  | getError
  | extract
  | encodeLine
  | run (n : Int) (c : Colour)
  | emit (cw : Bits)
  | pushbit (b : Bool)
  | writeByte (v : Byte)
  | pushSegment
  | flushPartial
  | eofb
  | swap
  | reset
deriving DecidableEq, Repr

/-- The codeword that a row of the codeword formats M, HRR and CW stands for; none for commands and micro-operations. -/
def Instr.codeword : Instr → Option Codeword
  | .p => some (.mode .pass)
  | .h => some (.mode .horizontal)
  | .v0 => some (.mode .v0)
  | .vr1 => some (.mode .vr1)
  | .vr2 => some (.mode .vr2)
  | .vr3 => some (.mode .vr3)
  | .vl1 => some (.mode .vl1)
  | .vl2 => some (.mode .vl2)
  | .vl3 => some (.mode .vl3)
  | .wt0 => some (.run (.term .white 0))
  | .wt1 => some (.run (.term .white 1))
  | .wt2 => some (.run (.term .white 2))
  | .wt3 => some (.run (.term .white 3))
  | .wt4 => some (.run (.term .white 4))
  | .wt5 => some (.run (.term .white 5))
  | .wt6 => some (.run (.term .white 6))
  | .wt7 => some (.run (.term .white 7))
  | .wt8 => some (.run (.term .white 8))
  | .wt9 => some (.run (.term .white 9))
  | .wt10 => some (.run (.term .white 10))
  | .wt11 => some (.run (.term .white 11))
  | .wt12 => some (.run (.term .white 12))
  | .wt13 => some (.run (.term .white 13))
  | .wt14 => some (.run (.term .white 14))
  | .wt15 => some (.run (.term .white 15))
  | .wt16 => some (.run (.term .white 16))
  | .wt17 => some (.run (.term .white 17))
  | .wt18 => some (.run (.term .white 18))
  | .wt19 => some (.run (.term .white 19))
  | .wt20 => some (.run (.term .white 20))
  | .wt21 => some (.run (.term .white 21))
  | .wt22 => some (.run (.term .white 22))
  | .wt23 => some (.run (.term .white 23))
  | .wt24 => some (.run (.term .white 24))
  | .wt25 => some (.run (.term .white 25))
  | .wt26 => some (.run (.term .white 26))
  | .wt27 => some (.run (.term .white 27))
  | .wt28 => some (.run (.term .white 28))
  | .wt29 => some (.run (.term .white 29))
  | .wt30 => some (.run (.term .white 30))
  | .wt31 => some (.run (.term .white 31))
  | .wt32 => some (.run (.term .white 32))
  | .wt33 => some (.run (.term .white 33))
  | .wt34 => some (.run (.term .white 34))
  | .wt35 => some (.run (.term .white 35))
  | .wt36 => some (.run (.term .white 36))
  | .wt37 => some (.run (.term .white 37))
  | .wt38 => some (.run (.term .white 38))
  | .wt39 => some (.run (.term .white 39))
  | .wt40 => some (.run (.term .white 40))
  | .wt41 => some (.run (.term .white 41))
  | .wt42 => some (.run (.term .white 42))
  | .wt43 => some (.run (.term .white 43))
  | .wt44 => some (.run (.term .white 44))
  | .wt45 => some (.run (.term .white 45))
  | .wt46 => some (.run (.term .white 46))
  | .wt47 => some (.run (.term .white 47))
  | .wt48 => some (.run (.term .white 48))
  | .wt49 => some (.run (.term .white 49))
  | .wt50 => some (.run (.term .white 50))
  | .wt51 => some (.run (.term .white 51))
  | .wt52 => some (.run (.term .white 52))
  | .wt53 => some (.run (.term .white 53))
  | .wt54 => some (.run (.term .white 54))
  | .wt55 => some (.run (.term .white 55))
  | .wt56 => some (.run (.term .white 56))
  | .wt57 => some (.run (.term .white 57))
  | .wt58 => some (.run (.term .white 58))
  | .wt59 => some (.run (.term .white 59))
  | .wt60 => some (.run (.term .white 60))
  | .wt61 => some (.run (.term .white 61))
  | .wt62 => some (.run (.term .white 62))
  | .wt63 => some (.run (.term .white 63))
  | .bt0 => some (.run (.term .black 0))
  | .bt1 => some (.run (.term .black 1))
  | .bt2 => some (.run (.term .black 2))
  | .bt3 => some (.run (.term .black 3))
  | .bt4 => some (.run (.term .black 4))
  | .bt5 => some (.run (.term .black 5))
  | .bt6 => some (.run (.term .black 6))
  | .bt7 => some (.run (.term .black 7))
  | .bt8 => some (.run (.term .black 8))
  | .bt9 => some (.run (.term .black 9))
  | .bt10 => some (.run (.term .black 10))
  | .bt11 => some (.run (.term .black 11))
  | .bt12 => some (.run (.term .black 12))
  | .bt13 => some (.run (.term .black 13))
  | .bt14 => some (.run (.term .black 14))
  | .bt15 => some (.run (.term .black 15))
  | .bt16 => some (.run (.term .black 16))
  | .bt17 => some (.run (.term .black 17))
  | .bt18 => some (.run (.term .black 18))
  | .bt19 => some (.run (.term .black 19))
  | .bt20 => some (.run (.term .black 20))
  | .bt21 => some (.run (.term .black 21))
  | .bt22 => some (.run (.term .black 22))
  | .bt23 => some (.run (.term .black 23))
  | .bt24 => some (.run (.term .black 24))
  | .bt25 => some (.run (.term .black 25))
  | .bt26 => some (.run (.term .black 26))
  | .bt27 => some (.run (.term .black 27))
  | .bt28 => some (.run (.term .black 28))
  | .bt29 => some (.run (.term .black 29))
  | .bt30 => some (.run (.term .black 30))
  | .bt31 => some (.run (.term .black 31))
  | .bt32 => some (.run (.term .black 32))
  | .bt33 => some (.run (.term .black 33))
  | .bt34 => some (.run (.term .black 34))
  | .bt35 => some (.run (.term .black 35))
  | .bt36 => some (.run (.term .black 36))
  | .bt37 => some (.run (.term .black 37))
  | .bt38 => some (.run (.term .black 38))
  | .bt39 => some (.run (.term .black 39))
  | .bt40 => some (.run (.term .black 40))
  | .bt41 => some (.run (.term .black 41))
  | .bt42 => some (.run (.term .black 42))
  | .bt43 => some (.run (.term .black 43))
  | .bt44 => some (.run (.term .black 44))
  | .bt45 => some (.run (.term .black 45))
  | .bt46 => some (.run (.term .black 46))
  | .bt47 => some (.run (.term .black 47))
  | .bt48 => some (.run (.term .black 48))
  | .bt49 => some (.run (.term .black 49))
  | .bt50 => some (.run (.term .black 50))
  | .bt51 => some (.run (.term .black 51))
  | .bt52 => some (.run (.term .black 52))
  | .bt53 => some (.run (.term .black 53))
  | .bt54 => some (.run (.term .black 54))
  | .bt55 => some (.run (.term .black 55))
  | .bt56 => some (.run (.term .black 56))
  | .bt57 => some (.run (.term .black 57))
  | .bt58 => some (.run (.term .black 58))
  | .bt59 => some (.run (.term .black 59))
  | .bt60 => some (.run (.term .black 60))
  | .bt61 => some (.run (.term .black 61))
  | .bt62 => some (.run (.term .black 62))
  | .bt63 => some (.run (.term .black 63))
  | .wm64 => some (.run (.makeup .white 1))
  | .wm128 => some (.run (.makeup .white 2))
  | .wm192 => some (.run (.makeup .white 3))
  | .wm256 => some (.run (.makeup .white 4))
  | .wm320 => some (.run (.makeup .white 5))
  | .wm384 => some (.run (.makeup .white 6))
  | .wm448 => some (.run (.makeup .white 7))
  | .wm512 => some (.run (.makeup .white 8))
  | .wm576 => some (.run (.makeup .white 9))
  | .wm640 => some (.run (.makeup .white 10))
  | .wm704 => some (.run (.makeup .white 11))
  | .wm768 => some (.run (.makeup .white 12))
  | .wm832 => some (.run (.makeup .white 13))
  | .wm896 => some (.run (.makeup .white 14))
  | .wm960 => some (.run (.makeup .white 15))
  | .wm1024 => some (.run (.makeup .white 16))
  | .wm1088 => some (.run (.makeup .white 17))
  | .wm1152 => some (.run (.makeup .white 18))
  | .wm1216 => some (.run (.makeup .white 19))
  | .wm1280 => some (.run (.makeup .white 20))
  | .wm1344 => some (.run (.makeup .white 21))
  | .wm1408 => some (.run (.makeup .white 22))
  | .wm1472 => some (.run (.makeup .white 23))
  | .wm1536 => some (.run (.makeup .white 24))
  | .wm1600 => some (.run (.makeup .white 25))
  | .wm1664 => some (.run (.makeup .white 26))
  | .wm1728 => some (.run (.makeup .white 27))
  | .bm64 => some (.run (.makeup .black 1))
  | .bm128 => some (.run (.makeup .black 2))
  | .bm192 => some (.run (.makeup .black 3))
  | .bm256 => some (.run (.makeup .black 4))
  | .bm320 => some (.run (.makeup .black 5))
  | .bm384 => some (.run (.makeup .black 6))
  | .bm448 => some (.run (.makeup .black 7))
  | .bm512 => some (.run (.makeup .black 8))
  | .bm576 => some (.run (.makeup .black 9))
  | .bm640 => some (.run (.makeup .black 10))
  | .bm704 => some (.run (.makeup .black 11))
  | .bm768 => some (.run (.makeup .black 12))
  | .bm832 => some (.run (.makeup .black 13))
  | .bm896 => some (.run (.makeup .black 14))
  | .bm960 => some (.run (.makeup .black 15))
  | .bm1024 => some (.run (.makeup .black 16))
  | .bm1088 => some (.run (.makeup .black 17))
  | .bm1152 => some (.run (.makeup .black 18))
  | .bm1216 => some (.run (.makeup .black 19))
  | .bm1280 => some (.run (.makeup .black 20))
  | .bm1344 => some (.run (.makeup .black 21))
  | .bm1408 => some (.run (.makeup .black 22))
  | .bm1472 => some (.run (.makeup .black 23))
  | .bm1536 => some (.run (.makeup .black 24))
  | .bm1600 => some (.run (.makeup .black 25))
  | .bm1664 => some (.run (.makeup .black 26))
  | .bm1728 => some (.run (.makeup .black 27))
  | .xm1792 => some (.run (.ext 28))
  | .xm1856 => some (.run (.ext 29))
  | .xm1920 => some (.run (.ext 30))
  | .xm1984 => some (.run (.ext 31))
  | .xm2048 => some (.run (.ext 32))
  | .xm2112 => some (.run (.ext 33))
  | .xm2176 => some (.run (.ext 34))
  | .xm2240 => some (.run (.ext 35))
  | .xm2304 => some (.run (.ext 36))
  | .xm2368 => some (.run (.ext 37))
  | .xm2432 => some (.run (.ext 38))
  | .xm2496 => some (.run (.ext 39))
  | .xm2560 => some (.run (.ext 40))
  | .eol => some (.eol)
  | .init _ _ _ _ _ => none
  | .addLine _ => none
  | .getOutputSize => none
  | .getError => none
  | .extract => none
  | .encodeLine => none
  | .run _ _ => none
  | .emit _ => none
  | .pushbit _ => none
  | .writeByte _ => none
  | .pushSegment => none
  | .flushPartial => none
  | .eofb => none
  | .swap => none
  | .reset => none

end Sys2Proof
end

