-- ==== Sys2Proof/WellFormed.lean ====
section
/-! DEFINITION. Which operation terms are well formed: the ranges the spec gives to operands. -/

namespace Sys2Proof

/-- LINE_BYTES for a width: `ceil8(w) = (w + 7) div 8` (00_scope.md R5, 20_memory.md R60). -/
def ceil8 (w : Nat) : Nat := (w + 7) / 8

/-- A run length handed to RUN lies below 2^17 in size (41_runlength_coder.md R158); every other operand is
bounded by its type, and EMIT takes a codeword of any length (R200). -/
def Instr.wellFormed : Instr → Bool
  | .run n _ => decide (-131072 ≤ n) && decide (n ≤ 131071)
  | _ => true

/-- The operand of ADD_LINE is exactly `ceil8(CFG.WIDTH)` bytes (20_memory.md R61). -/
def Instr.fitsWidth (width : Nat) : Instr → Bool
  | .addLine line => line.length == ceil8 width
  | _ => true

end Sys2Proof
end

