-- ==== Sys2Proof/Decode.lean ====
section
/-! DEFINITION. The code tables (30_encoding.md R95, R101 to R107), the decoder and the encoder of port words, and the
host's decodeTableWord. -/

namespace Sys2Proof

/-! ### Bit strings -/

/-- The `n` low bits of `v`, most significant first (R7). -/
def bitsMsb : Nat → Nat → Bits
  | 0, _ => []
  | n + 1, v => v.testBit n :: bitsMsb n v

/-- A bit string read as a binary numeral, leftmost digit most significant (R7). -/
def natOfBits (bs : Bits) : Nat := bs.foldl (fun acc b => 2 * acc + b.toNat) 0

/-- The rest of a bit string after a prefix, or none where it does not begin with it. -/
def dropPrefix : Bits → Bits → Option Bits
  | [], bs => some bs
  | _ :: _, [] => none
  | p :: ps, b :: bs => if p = b then dropPrefix ps bs else none

/-! ### The ROM (20_memory.md R64): the code tables -/

/-- A row of a code table: its operation, its length in bits and its value (R7). -/
structure CodeRow where
  instr : Instr
  len : Nat
  value : Nat
deriving DecidableEq, Repr

/-- The bit string of a row. -/
def CodeRow.bits (r : CodeRow) : Bits := bitsMsb r.len r.value

/-- The nine mode codewords (R95), in the order of that rule. -/
def modeRows : List CodeRow :=
  [⟨.p, 4, 1⟩,
   ⟨.h, 3, 1⟩,
   ⟨.v0, 1, 1⟩,
   ⟨.vr1, 3, 3⟩,
   ⟨.vr2, 6, 3⟩,
   ⟨.vr3, 7, 3⟩,
   ⟨.vl1, 3, 2⟩,
   ⟨.vl2, 6, 2⟩,
   ⟨.vl3, 7, 2⟩]

/-- White terminating codewords, row t for a run of t (R101). Part 1. -/
def whiteTermRows1 : List CodeRow :=
  [⟨.wt0, 8, 53⟩,
   ⟨.wt1, 6, 7⟩,
   ⟨.wt2, 4, 7⟩,
   ⟨.wt3, 4, 8⟩,
   ⟨.wt4, 4, 11⟩,
   ⟨.wt5, 4, 12⟩,
   ⟨.wt6, 4, 14⟩,
   ⟨.wt7, 4, 15⟩,
   ⟨.wt8, 5, 19⟩,
   ⟨.wt9, 5, 20⟩,
   ⟨.wt10, 5, 7⟩,
   ⟨.wt11, 5, 8⟩,
   ⟨.wt12, 6, 8⟩,
   ⟨.wt13, 6, 3⟩,
   ⟨.wt14, 6, 52⟩,
   ⟨.wt15, 6, 53⟩]

/-- White terminating codewords, row t for a run of t (R101). Part 2. -/
def whiteTermRows2 : List CodeRow :=
  [⟨.wt16, 6, 42⟩,
   ⟨.wt17, 6, 43⟩,
   ⟨.wt18, 7, 39⟩,
   ⟨.wt19, 7, 12⟩,
   ⟨.wt20, 7, 8⟩,
   ⟨.wt21, 7, 23⟩,
   ⟨.wt22, 7, 3⟩,
   ⟨.wt23, 7, 4⟩,
   ⟨.wt24, 7, 40⟩,
   ⟨.wt25, 7, 43⟩,
   ⟨.wt26, 7, 19⟩,
   ⟨.wt27, 7, 36⟩,
   ⟨.wt28, 7, 24⟩,
   ⟨.wt29, 8, 2⟩,
   ⟨.wt30, 8, 3⟩,
   ⟨.wt31, 8, 26⟩]

/-- White terminating codewords, row t for a run of t (R101). Part 3. -/
def whiteTermRows3 : List CodeRow :=
  [⟨.wt32, 8, 27⟩,
   ⟨.wt33, 8, 18⟩,
   ⟨.wt34, 8, 19⟩,
   ⟨.wt35, 8, 20⟩,
   ⟨.wt36, 8, 21⟩,
   ⟨.wt37, 8, 22⟩,
   ⟨.wt38, 8, 23⟩,
   ⟨.wt39, 8, 40⟩,
   ⟨.wt40, 8, 41⟩,
   ⟨.wt41, 8, 42⟩,
   ⟨.wt42, 8, 43⟩,
   ⟨.wt43, 8, 44⟩,
   ⟨.wt44, 8, 45⟩,
   ⟨.wt45, 8, 4⟩,
   ⟨.wt46, 8, 5⟩,
   ⟨.wt47, 8, 10⟩]

/-- White terminating codewords, row t for a run of t (R101). Part 4. -/
def whiteTermRows4 : List CodeRow :=
  [⟨.wt48, 8, 11⟩,
   ⟨.wt49, 8, 82⟩,
   ⟨.wt50, 8, 83⟩,
   ⟨.wt51, 8, 84⟩,
   ⟨.wt52, 8, 85⟩,
   ⟨.wt53, 8, 36⟩,
   ⟨.wt54, 8, 37⟩,
   ⟨.wt55, 8, 88⟩,
   ⟨.wt56, 8, 89⟩,
   ⟨.wt57, 8, 90⟩,
   ⟨.wt58, 8, 91⟩,
   ⟨.wt59, 8, 74⟩,
   ⟨.wt60, 8, 75⟩,
   ⟨.wt61, 8, 50⟩,
   ⟨.wt62, 8, 51⟩,
   ⟨.wt63, 8, 52⟩]

/-- White terminating codewords, row t for a run of t (R101). -/
def whiteTermRows : List CodeRow := whiteTermRows1 ++ whiteTermRows2 ++ whiteTermRows3 ++ whiteTermRows4

/-- Black terminating codewords, row t for a run of t (R102). Part 1. -/
def blackTermRows1 : List CodeRow :=
  [⟨.bt0, 10, 55⟩,
   ⟨.bt1, 3, 2⟩,
   ⟨.bt2, 2, 3⟩,
   ⟨.bt3, 2, 2⟩,
   ⟨.bt4, 3, 3⟩,
   ⟨.bt5, 4, 3⟩,
   ⟨.bt6, 4, 2⟩,
   ⟨.bt7, 5, 3⟩,
   ⟨.bt8, 6, 5⟩,
   ⟨.bt9, 6, 4⟩,
   ⟨.bt10, 7, 4⟩,
   ⟨.bt11, 7, 5⟩,
   ⟨.bt12, 7, 7⟩,
   ⟨.bt13, 8, 4⟩,
   ⟨.bt14, 8, 7⟩,
   ⟨.bt15, 9, 24⟩]

/-- Black terminating codewords, row t for a run of t (R102). Part 2. -/
def blackTermRows2 : List CodeRow :=
  [⟨.bt16, 10, 23⟩,
   ⟨.bt17, 10, 24⟩,
   ⟨.bt18, 10, 8⟩,
   ⟨.bt19, 11, 103⟩,
   ⟨.bt20, 11, 104⟩,
   ⟨.bt21, 11, 108⟩,
   ⟨.bt22, 11, 55⟩,
   ⟨.bt23, 11, 40⟩,
   ⟨.bt24, 11, 23⟩,
   ⟨.bt25, 11, 24⟩,
   ⟨.bt26, 12, 202⟩,
   ⟨.bt27, 12, 203⟩,
   ⟨.bt28, 12, 204⟩,
   ⟨.bt29, 12, 205⟩,
   ⟨.bt30, 12, 104⟩,
   ⟨.bt31, 12, 105⟩]

/-- Black terminating codewords, row t for a run of t (R102). Part 3. -/
def blackTermRows3 : List CodeRow :=
  [⟨.bt32, 12, 106⟩,
   ⟨.bt33, 12, 107⟩,
   ⟨.bt34, 12, 210⟩,
   ⟨.bt35, 12, 211⟩,
   ⟨.bt36, 12, 212⟩,
   ⟨.bt37, 12, 213⟩,
   ⟨.bt38, 12, 214⟩,
   ⟨.bt39, 12, 215⟩,
   ⟨.bt40, 12, 108⟩,
   ⟨.bt41, 12, 109⟩,
   ⟨.bt42, 12, 218⟩,
   ⟨.bt43, 12, 219⟩,
   ⟨.bt44, 12, 84⟩,
   ⟨.bt45, 12, 85⟩,
   ⟨.bt46, 12, 86⟩,
   ⟨.bt47, 12, 87⟩]

/-- Black terminating codewords, row t for a run of t (R102). Part 4. -/
def blackTermRows4 : List CodeRow :=
  [⟨.bt48, 12, 100⟩,
   ⟨.bt49, 12, 101⟩,
   ⟨.bt50, 12, 82⟩,
   ⟨.bt51, 12, 83⟩,
   ⟨.bt52, 12, 36⟩,
   ⟨.bt53, 12, 55⟩,
   ⟨.bt54, 12, 56⟩,
   ⟨.bt55, 12, 39⟩,
   ⟨.bt56, 12, 40⟩,
   ⟨.bt57, 12, 88⟩,
   ⟨.bt58, 12, 89⟩,
   ⟨.bt59, 12, 43⟩,
   ⟨.bt60, 12, 44⟩,
   ⟨.bt61, 12, 90⟩,
   ⟨.bt62, 12, 102⟩,
   ⟨.bt63, 12, 103⟩]

/-- Black terminating codewords, row t for a run of t (R102). -/
def blackTermRows : List CodeRow := blackTermRows1 ++ blackTermRows2 ++ blackTermRows3 ++ blackTermRows4

/-- White makeup codewords, row k - 1 for 64 * k (R103). Part 1. -/
def whiteMakeupRows1 : List CodeRow :=
  [⟨.wm64, 5, 27⟩,
   ⟨.wm128, 5, 18⟩,
   ⟨.wm192, 6, 23⟩,
   ⟨.wm256, 7, 55⟩,
   ⟨.wm320, 8, 54⟩,
   ⟨.wm384, 8, 55⟩,
   ⟨.wm448, 8, 100⟩,
   ⟨.wm512, 8, 101⟩,
   ⟨.wm576, 8, 104⟩,
   ⟨.wm640, 8, 103⟩,
   ⟨.wm704, 9, 204⟩,
   ⟨.wm768, 9, 205⟩,
   ⟨.wm832, 9, 210⟩,
   ⟨.wm896, 9, 211⟩,
   ⟨.wm960, 9, 212⟩,
   ⟨.wm1024, 9, 213⟩]

/-- White makeup codewords, row k - 1 for 64 * k (R103). Part 2. -/
def whiteMakeupRows2 : List CodeRow :=
  [⟨.wm1088, 9, 214⟩,
   ⟨.wm1152, 9, 215⟩,
   ⟨.wm1216, 9, 216⟩,
   ⟨.wm1280, 9, 217⟩,
   ⟨.wm1344, 9, 218⟩,
   ⟨.wm1408, 9, 219⟩,
   ⟨.wm1472, 9, 152⟩,
   ⟨.wm1536, 9, 153⟩,
   ⟨.wm1600, 9, 154⟩,
   ⟨.wm1664, 6, 24⟩,
   ⟨.wm1728, 9, 155⟩]

/-- White makeup codewords, row k - 1 for 64 * k (R103). -/
def whiteMakeupRows : List CodeRow := whiteMakeupRows1 ++ whiteMakeupRows2

/-- Black makeup codewords, row k - 1 for 64 * k (R104). Part 1. -/
def blackMakeupRows1 : List CodeRow :=
  [⟨.bm64, 10, 15⟩,
   ⟨.bm128, 12, 200⟩,
   ⟨.bm192, 12, 201⟩,
   ⟨.bm256, 12, 91⟩,
   ⟨.bm320, 12, 51⟩,
   ⟨.bm384, 12, 52⟩,
   ⟨.bm448, 12, 53⟩,
   ⟨.bm512, 13, 108⟩,
   ⟨.bm576, 13, 109⟩,
   ⟨.bm640, 13, 74⟩,
   ⟨.bm704, 13, 75⟩,
   ⟨.bm768, 13, 76⟩,
   ⟨.bm832, 13, 77⟩,
   ⟨.bm896, 13, 114⟩,
   ⟨.bm960, 13, 115⟩,
   ⟨.bm1024, 13, 116⟩]

/-- Black makeup codewords, row k - 1 for 64 * k (R104). Part 2. -/
def blackMakeupRows2 : List CodeRow :=
  [⟨.bm1088, 13, 117⟩,
   ⟨.bm1152, 13, 118⟩,
   ⟨.bm1216, 13, 119⟩,
   ⟨.bm1280, 13, 82⟩,
   ⟨.bm1344, 13, 83⟩,
   ⟨.bm1408, 13, 84⟩,
   ⟨.bm1472, 13, 85⟩,
   ⟨.bm1536, 13, 90⟩,
   ⟨.bm1600, 13, 91⟩,
   ⟨.bm1664, 13, 100⟩,
   ⟨.bm1728, 13, 101⟩]

/-- Black makeup codewords, row k - 1 for 64 * k (R104). -/
def blackMakeupRows : List CodeRow := blackMakeupRows1 ++ blackMakeupRows2

/-- Extended makeup codewords, row k - 28 for 64 * k (R106). -/
def extRows : List CodeRow :=
  [⟨.xm1792, 11, 8⟩,
   ⟨.xm1856, 11, 12⟩,
   ⟨.xm1920, 11, 13⟩,
   ⟨.xm1984, 12, 18⟩,
   ⟨.xm2048, 12, 19⟩,
   ⟨.xm2112, 12, 20⟩,
   ⟨.xm2176, 12, 21⟩,
   ⟨.xm2240, 12, 22⟩,
   ⟨.xm2304, 12, 23⟩,
   ⟨.xm2368, 12, 28⟩,
   ⟨.xm2432, 12, 29⟩,
   ⟨.xm2496, 12, 30⟩,
   ⟨.xm2560, 12, 31⟩]

/-- EOL (R107). -/
def eolRow : CodeRow := ⟨.eol, 12, 1⟩

/-- The bit string of row `i` of a table; empty where the table has no such row. -/
def rowBits (rows : List CodeRow) (i : Nat) : Bits :=
  match rows[i]? with
  | some r => r.bits
  | none => []

/-- The codeword of a mode (R95). -/
def Mode.bits : Mode → Bits
  | .pass => rowBits modeRows 0
  | .horizontal => rowBits modeRows 1
  | .v0 => rowBits modeRows 2
  | .vr1 => rowBits modeRows 3
  | .vr2 => rowBits modeRows 4
  | .vr3 => rowBits modeRows 5
  | .vl1 => rowBits modeRows 6
  | .vl2 => rowBits modeRows 7
  | .vl3 => rowBits modeRows 8

/-- The bit string of a run-length codeword (R101 to R104, R106). -/
def RunCode.bits : RunCode → Bits
  | .term .white t => rowBits whiteTermRows t
  | .term .black t => rowBits blackTermRows t
  | .makeup .white k => rowBits whiteMakeupRows (k - 1)
  | .makeup .black k => rowBits blackMakeupRows (k - 1)
  | .ext k => rowBits extRows (k - 28)

/-- The run value of a codeword: its length for a terminating code, `64 * k` for a makeup code (R152 to R156). -/
def RunCode.run : RunCode → Nat
  | .term _ t => t
  | .makeup _ k => 64 * k
  | .ext k => 64 * k

/-- The bit string of a codeword. -/
def Codeword.bits : Codeword → Bits
  | .mode m => m.bits
  | .run r => r.bits
  | .eol => eolRow.bits

/-! ### Words -/

/-- A micro-operation of 00_scope.md R14 as the block's sequencer selects it. -/
inductive MicroOp where
  | extract
  | encodeLine
  | run
  | emit
  | pushbit
  | writeByte
  | pushSegment
  | flushPartial
  | eofb
  | swap
deriving DecidableEq, Repr

/-- Which encoding set a word is read in (R108, R110): the mode set, the white or the black run set, the command
opcodes; micro-operations and the reset line have no bits in the table and are selected by name. DESIGN CHOICE, log 3. -/
inductive Port where
  | mode
  | white
  | black
  | command
  | micro (m : MicroOp)
  | resetLine
deriving DecidableEq, Repr

/-- One word: the set it is read in, and its bits, first bit leftmost. -/
structure PortWord where
  port : Port
  bits : Bits
deriving DecidableEq, Repr

/-- Why a word stands for no operation. -/
inductive DecodeError where
  /-- No codeword of the set is a prefix of the bits (R118). -/
  | noSuchCodeword
  /-- Bits are left over after the operation. -/
  | trailingBits
  /-- Fewer than the two opcode bits of format CMD (R110). -/
  | truncatedOpcode
  /-- The operands of INIT are not 96 bits (R110). -/
  | initOperandLength
  /-- The operand of ADD_LINE is not a whole number of bytes (R110). -/
  | raggedLine
  /-- The operand of a micro-operation has not its width. -/
  | microOperandLength
deriving DecidableEq, Repr

/-- The decoder's answer. -/
inductive Decoded where
  | ok (i : Instr)
  | bad (e : DecodeError)
deriving DecidableEq, Repr

/-! ### The decoder -/

/-- The rows a reader may meet at the start of a coding step (R108): the mode set, and EOL where the stream ends with
EOFB (R91). -/
def modeSet : List CodeRow := modeRows ++ [eolRow]

/-- The white set: terminating, makeup and extended (R108). -/
def whiteSet : List CodeRow := whiteTermRows ++ whiteMakeupRows ++ extRows

/-- The black set: terminating, makeup and extended (R108). -/
def blackSet : List CodeRow := blackTermRows ++ blackMakeupRows ++ extRows

/-- The one codeword of a set that begins the bits, with the bits after it (R108). -/
def readCode : List CodeRow → Bits → Option (Instr × Bits)
  | [], _ => none
  | r :: rs, bs =>
    match dropPrefix r.bits bs with
    | some rest => some (r.instr, rest)
    | none => readCode rs bs

/-- The bits read as exactly one codeword of the set. -/
def decodeCode (rows : List CodeRow) (bs : Bits) : Decoded :=
  match readCode rows bs with
  | some (i, []) => .ok i
  | some (_, _ :: _) => .bad .trailingBits
  | none => .bad .noSuchCodeword

/-- The unsigned field of `len` bits that begins at bit `off`. -/
def fieldAt (bs : Bits) (off len : Nat) : Nat := natOfBits ((bs.drop off).take len)

/-- Bits cut into bytes, bit 7 first; none where they are not a whole number of bytes. -/
def bytesOfBits : Bits → Option (List Byte)
  | [] => some []
  | b7 :: b6 :: b5 :: b4 :: b3 :: b2 :: b1 :: b0 :: rest =>
    (bytesOfBits rest).map (BitVec.ofNat 8 (natOfBits [b7, b6, b5, b4, b3, b2, b1, b0]) :: ·)
  | _ :: _ => none

/-- Format CMD (R110): a two-bit opcode, then the operands in that rule's order. -/
def decodeCommand : Bits → Decoded
  | false :: false :: ops =>
    if ops.length = 96 then
      .ok (.init (BitVec.ofNat 16 (fieldAt ops 0 16)) (BitVec.ofNat 32 (fieldAt ops 16 32))
        (BitVec.ofNat 8 (fieldAt ops 48 8)) (BitVec.ofNat 8 (fieldAt ops 56 8)) (BitVec.ofNat 32 (fieldAt ops 64 32)))
    else .bad .initOperandLength
  | false :: true :: ops =>
    match bytesOfBits ops with
    | some line => .ok (.addLine line)
    | none => .bad .raggedLine
  | [true, false] => .ok .getOutputSize
  | [true, true] => .ok .getError
  | true :: _ :: _ :: _ => .bad .trailingBits
  | [_] => .bad .truncatedOpcode
  | [] => .bad .truncatedOpcode

/-- The colour that a bit stands for (R8). -/
def colourOfBit (b : Bool) : Colour := if b then .black else .white

/-- The bit that stands for a colour (R8). -/
def bitOfColour : Colour → Bool
  | .white => false
  | .black => true

/-- An operation without operands: it has no bits. -/
def decodeBare (i : Instr) : Bits → Decoded
  | [] => .ok i
  | _ :: _ => .bad .trailingBits

/-- Micro-operations: RUN takes a colour bit and an 18-bit two's complement length, EMIT the codeword itself, PUSHBIT
one bit, WRITE_BYTE one byte; the others nothing. DESIGN CHOICE, log 3. -/
def decodeMicro : MicroOp → Bits → Decoded
  | .extract, bs => decodeBare .extract bs
  | .encodeLine, bs => decodeBare .encodeLine bs
  | .run, bs =>
    match bs with
    | c :: ns => if ns.length = 18 then .ok (.run (BitVec.ofNat 18 (natOfBits ns)).toInt (colourOfBit c))
                 else .bad .microOperandLength
    | [] => .bad .microOperandLength
  | .emit, bs => .ok (.emit bs)
  | .pushbit, bs =>
    match bs with
    | [b] => .ok (.pushbit b)
    | _ => .bad .microOperandLength
  | .writeByte, bs =>
    if bs.length = 8 then .ok (.writeByte (BitVec.ofNat 8 (natOfBits bs))) else .bad .microOperandLength
  | .pushSegment, bs => decodeBare .pushSegment bs
  | .flushPartial, bs => decodeBare .flushPartial bs
  | .eofb, bs => decodeBare .eofb bs
  | .swap, bs => decodeBare .swap bs

/-- The operation a word stands for. -/
def decode (w : PortWord) : Decoded :=
  match w.port with
  | .mode => decodeCode modeSet w.bits
  | .white => decodeCode whiteSet w.bits
  | .black => decodeCode blackSet w.bits
  | .command => decodeCommand w.bits
  | .micro m => decodeMicro m w.bits
  | .resetLine => decodeBare .reset w.bits

/-! ### The encoder -/

/-- The set a codeword is read in; an extended makeup code, the same for both colours, is put in the white set, and EOL
in the mode set. DESIGN CHOICE, log 3. -/
def Codeword.port : Codeword → Port
  | .mode _ => .mode
  | .run (.term .white _) => .white
  | .run (.term .black _) => .black
  | .run (.makeup .white _) => .white
  | .run (.makeup .black _) => .black
  | .run (.ext _) => .white
  | .eol => .mode

/-- The bits of a byte, bit 7 first. -/
def bitsOfByte (v : Byte) : Bits := bitsMsb 8 v.toNat

/-- The word of a row that is no codeword. -/
def encodeOther : Instr → PortWord
  | .init width height bitOrder sink cap =>
    ⟨.command, [false, false] ++ bitsMsb 16 width.toNat ++ bitsMsb 32 height.toNat ++ bitsMsb 8 bitOrder.toNat
      ++ bitsMsb 8 sink.toNat ++ bitsMsb 32 cap.toNat⟩
  | .addLine line => ⟨.command, [false, true] ++ line.flatMap bitsOfByte⟩
  | .getOutputSize => ⟨.command, [true, false]⟩
  | .getError => ⟨.command, [true, true]⟩
  | .extract => ⟨.micro .extract, []⟩
  | .encodeLine => ⟨.micro .encodeLine, []⟩
  | .run n c => ⟨.micro .run, bitOfColour c :: bitsMsb 18 (BitVec.ofInt 18 n).toNat⟩
  | .emit cw => ⟨.micro .emit, cw⟩
  | .pushbit b => ⟨.micro .pushbit, [b]⟩
  | .writeByte v => ⟨.micro .writeByte, bitsOfByte v⟩
  | .pushSegment => ⟨.micro .pushSegment, []⟩
  | .flushPartial => ⟨.micro .flushPartial, []⟩
  | .eofb => ⟨.micro .eofb, []⟩
  | .swap => ⟨.micro .swap, []⟩
  | _ => ⟨.resetLine, []⟩

/-- The word of an operation (R95, R101 to R107, R110). -/
def encode (i : Instr) : PortWord :=
  match i.codeword with
  | some cw => ⟨cw.port, cw.bits⟩
  | none => encodeOther i

/-! ### Words of the opcode table -/

/-- The words that `len` bits of value `w` can stand for: a command with operands of zeros, a codeword of the mode set,
of the white set, of the black set. -/
def tableWordsOfLength (len w : Nat) : List PortWord :=
  if w < 2 ^ len then
    [⟨.command, bitsMsb len w⟩, ⟨.command, bitsMsb len w ++ List.replicate 96 false⟩, ⟨.mode, bitsMsb len w⟩,
     ⟨.white, bitsMsb len w⟩, ⟨.black, bitsMsb len w⟩]
  else []

/-- Whether a word stands for an operation. -/
def PortWord.decodes (w : PortWord) : Bool :=
  match decode w with
  | .ok _ => true
  | .bad _ => false

/-- The first of the words that stands for an operation, trying `len` bits, then one bit fewer, `fuel` lengths in all. -/
def tableWordFrom : Nat → Nat → Nat → Option PortWord
  | 0, _, _ => none
  | fuel + 1, len, w =>
    match (tableWordsOfLength len w).find? PortWord.decodes with
    | some word => some word
    | none =>
      match len with
      | 0 => none
      | len' + 1 => tableWordFrom fuel len' w

/-- The word that the table's bits `w`, `nbits` wide, stand for. The table's numbers are read without a set, so where two
sets hold the same bits the command comes first, then mode, white, black; where `nbits` is the row's width rounded up to
whole bytes, the longest codeword of that value is taken. DESIGN CHOICE, log 23. -/
def tableWord (nbits w : Nat) : Option PortWord := tableWordFrom 8 nbits w

/-- The operation that the decoder reads from a word of the opcode table. -/
def decodeTableWord (nbits w : Nat) : Option Instr :=
  match tableWord nbits w with
  | some word =>
    match decode word with
    | .ok i => some i
    | .bad _ => none
  | none => none

end Sys2Proof
end

