-- ==== Sys2Proof/Machine/State.lean ====
section
/-! DEFINITION. The state of G4Enc CORE (10_state.md), its reset value, and the reasons a step can stop. -/

namespace Sys2Proof.Machine

/-- The configuration registers, written by INIT (R21 to R25). -/
structure CfgRegs where
  /-- CFG.WIDTH, 16 bits (R21). -/
  width : BitVec 16
  /-- CFG.HEIGHT, 32 bits (R22). -/
  height : BitVec 32
  /-- CFG.BIT_ORDER, 1 bit (R23). -/
  bitOrder : BitOrder
  /-- CFG.SINK, 1 bit (R24). -/
  sink : SinkKind
  /-- CFG.CAP, 32 bits (R25). -/
  cap : BitVec 32
deriving DecidableEq, Repr

/-- The OUT space (20_memory.md R62) as the bytes the core has written, addresses strictly rising. A byte that is not
listed is what the host had there: no value (log 12). -/
abbrev Memory := List Host.Cell

/-- The state of the block (R20), of the spaces it exchanges with its environment (20_memory.md R60), and of the
environment's inputs still to come (00_scope.md R11). Positions of columns are held as integers with the ranges of
R33 and R36 (log 25). -/
structure State where
  /-- The design-time parameters (00_scope.md R4); no operation writes them. -/
  params : Params
  /-- CFG.* (R21 to R25). -/
  cfg : CfgRegs
  /-- STATE (R26). -/
  stateReg : SessionState
  /-- ROWS (R27). -/
  rows : BitVec 32
  /-- ERR (R28). -/
  err : ErrKind
  /-- COUNT (R29). -/
  count : BitVec 32
  /-- ACC (R30). -/
  acc : BitVec 8
  /-- NB (R30). -/
  nb : BitVec 3
  /-- STG[0 .. STGN-1]; STGN is its length (R31). -/
  stg : List Byte
  /-- TB[0][0 .. TL[0]-1]; TL[0] is its length (R33). -/
  tb0 : List Nat
  /-- TB[1][0 .. TL[1]-1]; TL[1] is its length (R33). -/
  tb1 : List Nat
  /-- REFSEL, false for 0 (R34). -/
  refsel : Bool
  /-- A0, signed (R36). -/
  a0 : Int
  /-- COLOR (R36). -/
  colour : Colour
  /-- The LINE space: the scanline of the current ADD_LINE (20_memory.md R61). -/
  line : List Byte
  /-- The OUT space (20_memory.md R62). -/
  out : Memory
  /-- The segments that the sink has answered with OK, oldest first (20_memory.md R63). -/
  delivered : List (List Byte)
  /-- The model's own: how many segments had been delivered when INIT started the session. No operation reads it, it says
  where the segments of the session begin in `delivered` (log 22). -/
  deliveredAtInit : Nat
  /-- The result code of the last command (30_encoding.md R112). -/
  rc : ErrKind
  /-- The data word of the last command (30_encoding.md R112). -/
  data : BitVec 32
  /-- The model's own: the codewords that the last RUN operation returned (41_runlength_coder.md R150). -/
  codes : List RunCode
  /-- The environment's: the words that the host will issue, next one first (00_scope.md R11). -/
  host : List PortWord
  /-- The environment's: the answers that the sink will give, next one first (20_memory.md R63). -/
  sinkReplies : List SinkReply
  /-- The environment's: after how many more output operations the reset line is asserted inside the command that makes
  them; none where it is not (44_session_commands.md R227, log 20). -/
  resetIn : Option Nat
  /-- The model's own: how many times free values have been drawn (log 6). -/
  freeCount : Nat
deriving DecidableEq, Repr

/-- Why the machine stops. -/
inductive Fault where
  /-- PUSH_SEGMENT, and each operation that pushes: the sink never answers, so the command does not return
  (93_implementation_defined.md U11, stuck). Safe: the hardware waits here. -/
  | sinkSilent
  /-- WRITE_BYTE in FIXED mode with COUNT above CFG.CAP: OUT has no such index (R62). Safe: no session reaches it. -/
  | outIndexBeyondCap
  /-- WRITE_BYTE in STREAM mode with STGN at or above SEG_SIZE: STG has no such entry (R31). Safe: no session reaches
  it. -/
  | stagingOverrun
  /-- ENCODE_LINE whose A0 does not reach WIDTH (stuck): only with a buffer that is not well formed (R186). Safe: no
  session reaches it. -/
  | lineNeverEnds
deriving DecidableEq, Repr

/-- Why an operation has no meaning here. -/
inductive Refusal where
  /-- An operation that has no meaning yet. Safe. -/
  | notModelled (mnemonic : String)
  /-- A word that stands for no operation; no such command exists (R118). Raised by step. Safe. -/
  | malformedWord (e : DecodeError)
  /-- EXTRACT, and ADD_LINE through it, with fewer than ceil8(WIDTH) bytes in LINE
  (93_implementation_defined.md U9, refuse). Safe. -/
  | lineTooShort
  /-- PUSH_SEGMENT that would take COUNT past 2^32 - 1 (R29, 93_implementation_defined.md U6, refuse). Safe. -/
  | countBeyond32Bits
  /-- PUSH_SEGMENT outside its precondition: no STREAM sink, or STGN = 0 (R205). Safe. -/
  | pushPrecondition
deriving DecidableEq, Repr

/-- The answer of one operation. -/
abbrev Out := Host.Outcome State Fault Refusal

/-- The machine right after hardware reset: STATE = UNINIT, ERR = NONE, COUNT = 0 (R44); what R44 leaves unspecified
holds zero (DESIGN CHOICE, log 5), no command has run and nothing of the environment is placed. -/
def State.reset : State :=
  { params := Config.defaultParams
    cfg := { width := 0, height := 0, bitOrder := .msbFirst, sink := .fixed, cap := 0 }
    stateReg := .uninit
    rows := 0
    err := .success
    count := 0
    acc := 0
    nb := 0
    stg := []
    tb0 := []
    tb1 := []
    refsel := false
    a0 := 0
    colour := .white
    line := []
    out := []
    delivered := []
    deliveredAtInit := 0
    rc := .success
    data := 0
    codes := []
    host := []
    sinkReplies := []
    resetIn := none
    freeCount := 0 }

end Sys2Proof.Machine
end

