-- ==== Sys2Proof/Machine/Flags.lean ====
section
/-! DEFINITION. The flag-like state of 10_state.md R38: COLOR, and the numeric codes of STATE and of the error kinds. -/

namespace Sys2Proof.Machine

/-- `opp(c) = 1 - c` (00_scope.md R8). -/
def opp : Colour → Colour
  | .white => .black
  | .black => .white

/-- COLOR as a number: `WHITE = 0`, `BLACK = 1` (00_scope.md R8). -/
def colourCode : Colour → Nat
  | .white => 0
  | .black => 1

/-- The code of STATE (R26). -/
def sessionCode : SessionState → BitVec 3
  | .uninit => 0
  | .initialized => 1
  | .encoding => 2
  | .complete => 3
  | .failed => 4

/-- The code of an error kind, as rc and as ERR (60_exceptions.md R250). -/
def errCode : ErrKind → BitVec 3
  | .success => 0
  | .notInitialized => 1
  | .invalidParameter => 2
  | .dataOverflow => 3
  | .imageComplete => 4
  | .ioError => 5

end Sys2Proof.Machine
end

