-- ==== Sys2Proof/Machine/Operands.lean ====
section
/-! DEFINITION. What the operations read: registers by role, pixels of LINE (R131), padded reads of the transition
buffers (R9), the positions a1, a2, b1, b2 (R172, R173), the choice of a coding step (R171) and the split of a run
(R151). -/

namespace Sys2Proof.Machine

/-! ### Registers by role -/

/-- `W`: CFG.WIDTH as an integer. -/
def State.W (s : State) : Nat := s.cfg.width.toNat

/-- The reference buffer `TB[REFSEL]` (R34). -/
def State.ref (s : State) : List Nat := if s.refsel then s.tb1 else s.tb0

/-- The current buffer `TB[1 - REFSEL]` (R34). -/
def State.cur (s : State) : List Nat := if s.refsel then s.tb0 else s.tb1

/-- TL[0] (false) and TL[1] (true) (R33). -/
def State.tl (s : State) (sel : Bool) : Nat := if sel then s.tb1.length else s.tb0.length

/-- STGN (R31). -/
def State.stgn (s : State) : Nat := s.stg.length

/-! ### Pixels -/

/-- Where pixel or stream bit `j` of a byte stands: bit `7 - j` in MSB_FIRST, bit `j` in LSB_FIRST (R65, R66, R131). -/
def bitPos : BitOrder → Nat → Nat
  | .msbFirst, j => 7 - j
  | .lsbFirst, j => j

/-- UNPACK (R131): the colour of column `x` of a scanline. A byte that is not there reads as 0; EXTRACT refuses a line
that has not all its bytes before it reads one. -/
def pix (order : BitOrder) (line : List Byte) (x : Nat) : Colour :=
  if (line.getD (x / 8) 0).getLsbD (bitPos order (x % 8)) = Config.whiteValue then .white else .black

/-- The loop of EXTRACT (R132) from column `x` on, `n` columns before WIDTH, after a pixel of colour `prev`; the last
entry is the boundary entry. -/
def extractFrom (pixel : Nat → Colour) : Nat → Nat → Colour → List Nat
  | 0, x, _ => [x]
  | n + 1, x, prev =>
    if pixel x = prev then extractFrom pixel n (x + 1) prev
    else x :: extractFrom pixel n (x + 1) (pixel x)

/-- `extract(pix, W)` (R132, R136): the transition sequence of a scanline. -/
def extractSeq (pixel : Nat → Colour) (w : Nat) : List Nat := extractFrom pixel w 0 .white

/-! ### Changing elements -/

/-- The padded read `T<i>`: entry `i`, or WIDTH at or beyond the length (00_scope.md R9, R33). -/
def padded (t : List Nat) (w i : Nat) : Nat := t.getD i w

/-- The least index `i >= k` of an entry above `a0` whose index passes the test, in a list whose first entry has index
`k`. -/
def leastAbove (a0 : Int) (test : Nat → Bool) : List Nat → Nat → Option Nat
  | [], _ => none
  | x :: xs, k => if test k && decide (a0 < (x : Int)) then some k else leastAbove a0 test xs (k + 1)

/-- `T<i>` and `T<i+1>` for that least index; WIDTH twice where only padded entries are left. -/
def changePair (t : List Nat) (w : Nat) (a0 : Int) (test : Nat → Bool) : Nat × Nat :=
  match leastAbove a0 test t 0 with
  | some i => (padded t w i, padded t w (i + 1))
  | none => (w, w)

/-- a1 and a2 (R172): the first change of the current line right of a0, and the next one. -/
def aPair (cur : List Nat) (w : Nat) (a0 : Int) : Nat × Nat := changePair cur w a0 (fun _ => true)

/-- b1 and b2 (R173): the first change of the reference line right of a0 whose index has the parity of COLOR, and the
next one. -/
def bPair (ref : List Nat) (w : Nat) (a0 : Int) (c : Colour) : Nat × Nat :=
  changePair ref w a0 (fun j => j % 2 == colourCode c)

/-- a1 of the state (R172). -/
def State.a1 (s : State) : Nat := (aPair s.cur s.W s.a0).1
/-- a2 of the state (R172). -/
def State.a2 (s : State) : Nat := (aPair s.cur s.W s.a0).2
/-- b1 of the state (R173). -/
def State.b1 (s : State) : Nat := (bPair s.ref s.W s.a0 s.colour).1
/-- b2 of the state (R173). -/
def State.b2 (s : State) : Nat := (bPair s.ref s.W s.a0 s.colour).2

/-- The choice of ENCODE_LINE (R171): Pass where `b2 < a1`, strictly; else the vertical mode of `a1 - b1` where that is
at most 3 in size; else Horizontal. -/
def selectMode (a1 b1 b2 : Nat) : Mode :=
  if b2 < a1 then .pass
  else
    let d : Int := (a1 : Int) - (b1 : Int)
    if d = 0 then .v0
    else if d = 1 then .vr1
    else if d = 2 then .vr2
    else if d = 3 then .vr3
    else if d = -1 then .vl1
    else if d = -2 then .vl2
    else if d = -3 then .vl3
    else .horizontal

/-! ### Runs -/

/-- The makeup and terminating codewords of a run below 2560 (R151). -/
def runTail (n : Nat) (c : Colour) : List RunCode :=
  (if n < 64 then [] else if 1792 ≤ n / 64 * 64 then [RunCode.ext (n / 64)] else [RunCode.makeup c (n / 64)])
    ++ [RunCode.term c (n % 64)]

/-- `run_codes(n, c)` (R151): `n div 2560` copies of XM2560, then the rest of the run. -/
def runCodes (n : Nat) (c : Colour) : List RunCode :=
  List.replicate (n / 2560) (RunCode.ext 40) ++ runTail (n % 2560) c

/-- The length of the first run of Horizontal mode, `a1 - max(A0, 0)` (R184). -/
def firstRun (a0 : Int) (a1 : Nat) : Int := (a1 : Int) - max a0 0

/-- The length of the second run of Horizontal mode, `a2 - a1` (R184). -/
def secondRun (a1 a2 : Nat) : Int := (a2 : Int) - (a1 : Int)

/-! ### INIT -/

/-- The legal operands of INIT (R111, R221). -/
def initLegal (p : Params) (width : BitVec 16) (height : BitVec 32) (bitOrder sink : BitVec 8) : Bool :=
  decide (1 ≤ width.toNat) && decide (width.toNat ≤ p.maxTransitions) && decide (1 ≤ height.toNat)
    && decide (bitOrder.toNat ≤ 1) && decide (sink.toNat ≤ 1)

/-- The bit order that a legal operand stands for (R111). -/
def bitOrderOf (v : BitVec 8) : BitOrder := if v = 0 then .msbFirst else .lsbFirst

/-- The sink that a legal operand stands for (R111). -/
def sinkOf (v : BitVec 8) : SinkKind := if v = 0 then .fixed else .stream

end Sys2Proof.Machine
end

