-- ==== Sys2Proof/Machine/Ops.lean ====
section
/-! DEFINITION. The shared operations: the OUT space, the output port, raise and the entry into FAILED (R258), hardware
reset (R227), the BitPacker (43_bitpacker.md), the coding steps (42_mode_encoder.md) and fetching a word. -/

namespace Sys2Proof.Machine

/-! ### OUT (R62) -/

/-- The byte the core has written at an index of OUT; none where the host's own byte stands. -/
def memRead : Memory → Nat → Option Byte
  | [], _ => none
  | (b, w) :: m, a => if a = b then some w else memRead m a

/-- `MemWrite(OUT, a, 1, v)` (00_scope.md R10). -/
def memWrite : Memory → Nat → Byte → Memory
  | [], a, v => [(a, v)]
  | (b, w) :: m, a, v =>
    if a < b then (a, v) :: (b, w) :: m
    else if a = b then (a, v) :: m
    else (b, w) :: memWrite m a v

/-- The canonical form: addresses strictly rising. An unlisted index reads as no value, so no entry can equal it. -/
def Memory.wf : Memory → Bool
  | [] => true
  | [_] => true
  | (a, _) :: (b, w) :: m => decide (a < b) && Memory.wf ((b, w) :: m)

/-- The bytes of a list written at consecutive indexes of OUT. -/
def writeBytes (m : Memory) (a : Nat) : List Byte → Memory
  | [] => m
  | v :: vs => writeBytes (memWrite m a v) (a + 1) vs

/-! ### The course of an operation -/

/-- How a micro-operation goes on: to its end, to a `raise` (R258), to the assertion of the reset line (R227), to a
stop, or to a refusal. -/
inductive Res where
  | ok (s : State)
  | raised (e : ErrKind) (s : State)
  | cut (s : State)
  | stop (f : Fault)
  | refuse (r : Refusal)
deriving DecidableEq, Repr

/-- The next statement runs only after one that came to its end (R258: "no later statement of the command runs"). -/
def Res.andThen (r : Res) (k : State → Res) : Res :=
  match r with
  | .ok s => k s
  | .raised e s => .raised e s
  | .cut s => .cut s
  | .stop f => .stop f
  | .refuse x => .refuse x

/-- The registers that R259 and R44 call unspecified, but for CFG, each a free value (logs 6, 7). -/
def havocWork (s : State) : State :=
  { s with
    rows := Config.freeRows s.freeCount
    acc := Config.freeAcc s.freeCount
    nb := Config.freeNb s.freeCount
    stg := Config.freeStg s.freeCount
    tb0 := Config.freeTb0 s.freeCount
    tb1 := Config.freeTb1 s.freeCount
    refsel := Config.freeRefsel s.freeCount
    a0 := Config.freeA0 s.freeCount
    colour := Config.freeColour s.freeCount
    freeCount := s.freeCount + 1 }

/-- An unspecified CFG (R44). -/
def freeCfg (k : Nat) : CfgRegs :=
  { width := Config.freeWidth k, height := Config.freeHeight k, bitOrder := Config.freeBitOrder k
    sink := Config.freeSink k, cap := Config.freeCap k }

/-- STATE <- UNINIT, ERR <- NONE, COUNT <- 0, every other register unspecified: hardware reset (R44, R227) and a
refused INIT (R44, R221). OUT and what the sink holds stay (R281). -/
def unspecifyAll (s : State) : State :=
  { havocWork s with cfg := freeCfg s.freeCount, stateReg := .uninit, err := .success, count := 0 }

/-- Hardware reset (R227); the line has been asserted and is so no more. -/
def hardReset (s : State) : State := { unspecifyAll s with resetIn := none }

/-- `return (rc, data)` (00_scope.md R10). -/
def State.answer (s : State) (rc : ErrKind) (data : BitVec 32) : State := { s with rc := rc, data := data }

/-- Taking an exception, `raise E` (R258, R259): STATE <- FAILED, ERR <- E, the result (E, 0); nothing is saved and
nothing is vectored; CFG, COUNT and OUT keep their values; every other register is unspecified. There is no return from it
(R263). -/
def takeError (e : ErrKind) (s : State) : State :=
  ({ havocWork s with stateReg := .failed, err := e }).answer e 0

/-- How an operation that returns no result of its own ends. -/
def settle : Res → Out
  | .ok s => .next s
  | .raised e s => .next (takeError e s)
  | .cut s => .next (hardReset s)
  | .stop f => .fault f
  | .refuse r => .refused r

/-- How an accepted command ends: SUCCESS where nothing raised (R222). -/
def settleCommand (r : Res) : Out := settle (r.andThen fun s => .ok (s.answer .success 0))

/-! ### The output port -/

/-- Before an output operation (a store to OUT or a push of a segment, R238): the reset line may be asserted here,
which abandons the command (R227). -/
def outputTick (s : State) : Res :=
  match s.resetIn with
  | none => .ok s
  | some 0 => .cut s
  | some (n + 1) => .ok { s with resetIn := some n }

/-- The sink's answer to a push: the environment's next one, or a free one where it lists none (R63). -/
def nextReply (s : State) : SinkReply :=
  match s.sinkReplies with
  | r :: _ => r
  | [] => Config.freeReply s.freeCount

/-- The state after the answer has been taken. -/
def takeReply (s : State) : State :=
  match s.sinkReplies with
  | _ :: rs => { s with sinkReplies := rs }
  | [] => { s with freeCount := s.freeCount + 1 }

/-- `SinkPush(STG[0 .. STGN-1])` and what PUSH_SEGMENT makes of the answer (R63, R205). -/
def sinkPush (s : State) : Res :=
  match nextReply s with
  | .ok =>
    if s.count.toNat + s.stg.length < 4294967296 then
      .ok { takeReply s with
        delivered := s.delivered ++ [s.stg], count := s.count + BitVec.ofNat 32 s.stg.length, stg := [] }
    else .refuse .countBeyond32Bits
  | .fail => .raised .ioError (takeReply s)
  | .silent => .stop .sinkSilent

/-- PUSH_SEGMENT (R205), for the STREAM sink only and with STGN >= 1. -/
def pushSegment (s : State) : Res :=
  if s.cfg.sink = .stream ∧ s.stg ≠ [] then (outputTick s).andThen sinkPush
  else .refuse .pushPrecondition

/-- WRITE_BYTE with the FIXED sink (R203). -/
def writeByteFixed (v : Byte) (s : State) : Res :=
  if s.count = s.cfg.cap then .raised .dataOverflow s
  else if s.count.toNat < s.cfg.cap.toNat then
    (outputTick s).andThen fun s =>
      .ok { s with out := memWrite s.out s.count.toNat v, count := s.count + 1 }
  else .stop .outIndexBeyondCap

/-- WRITE_BYTE with the STREAM sink (R204). -/
def writeByteStream (v : Byte) (s : State) : Res :=
  if s.stg.length < s.params.segSize then
    let s' := { s with stg := s.stg ++ [v] }
    if s'.stg.length = s.params.segSize then pushSegment s' else .ok s'
  else .stop .stagingOverrun

/-- WRITE_BYTE (R202). -/
def writeByte (v : Byte) (s : State) : Res :=
  match s.cfg.sink with
  | .fixed => writeByteFixed v s
  | .stream => writeByteStream v s

/-! ### BitPacker -/

/-- ACC with the next stream bit placed (R201): bit `7 - NB` or bit `NB` becomes 1 for a 1 bit. -/
def placeBit (order : BitOrder) (acc : BitVec 8) (nb : BitVec 3) (b : Bool) : BitVec 8 :=
  if b then acc ||| BitVec.twoPow 8 (bitPos order nb.toNat) else acc

/-- PUSHBIT(b) (R201). -/
def pushBit (b : Bool) (s : State) : Res :=
  let acc := placeBit s.cfg.bitOrder s.acc s.nb b
  if s.nb = 7 then writeByte acc { s with acc := 0, nb := 0 }
  else .ok { s with acc := acc, nb := s.nb + 1 }

/-- EMIT(cw) (R200): the bits of the codeword, leftmost first. -/
def emitBits : Bits → State → Res
  | [], s => .ok s
  | b :: bs, s => (pushBit b s).andThen (emitBits bs)

/-- EMIT for each codeword of a list, in order (R150). -/
def emitCodes : List RunCode → State → Res
  | [], s => .ok s
  | c :: cs, s => (emitBits c.bits s).andThen (emitCodes cs)

/-- RUN (R151): the codewords of a run; none for a negative length (R157). -/
def runOf (n : Int) (c : Colour) : Option (List RunCode) :=
  if n < 0 then none else some (runCodes n.toNat c)

/-- The code of one run is emitted; a negative length raises INVALID_PARAMETER before anything of it is (R157). -/
def emitRun (n : Int) (c : Colour) (s : State) : Res :=
  match runOf n c with
  | some codes => emitCodes codes s
  | none => .raised .invalidParameter s

/-- FLUSH_PARTIAL (R206). -/
def flushPartial (s : State) : Res :=
  (if s.nb = 0 then .ok s else writeByte s.acc { s with acc := 0, nb := 0 }).andThen fun s =>
    if s.cfg.sink = .stream ∧ s.stg ≠ [] then pushSegment s else .ok s

/-- EOFB (R208): EOL twice where the parameter is true, else nothing. -/
def emitEofb (s : State) : Res :=
  if s.params.eofb then (emitBits eolRow.bits s).andThen (emitBits eolRow.bits) else .ok s

/-- A codeword that enters the stream by itself. -/
def emitOnly (cw : Codeword) (s : State) : Out := settle (emitBits cw.bits s)

/-! ### Transition buffers -/

/-- The current buffer is overwritten (R132). -/
def State.setCur (s : State) (t : List Nat) : State := if s.refsel then { s with tb0 := t } else { s with tb1 := t }

/-- EXTRACT (R132), with the failure of R135. -/
def extractLine (s : State) : Res :=
  if s.params.maxTransitions < s.W then .raised .invalidParameter s
  else if s.line.length < ceil8 s.W then .refuse .lineTooShort
  else .ok (s.setCur (extractSeq (pix s.cfg.bitOrder s.line) s.W))

/-- SWAP (R34, R224). -/
def swapBuffers (s : State) : State := { s with refsel := !s.refsel }

/-! ### Coding steps -/

/-- Pass (R176). -/
def passStep (s : State) : Res :=
  (emitBits Mode.pass.bits s).andThen fun t => .ok { t with a0 := (s.b2 : Int) }

/-- A vertical step (R177 to R183). -/
def verticalStep (m : Mode) (s : State) : Res :=
  (emitBits m.bits s).andThen fun t => .ok { t with a0 := (s.a1 : Int), colour := opp s.colour }

/-- Horizontal (R184). -/
def horizontalStep (s : State) : Res :=
  (emitBits Mode.horizontal.bits s).andThen fun t =>
    (emitRun (firstRun s.a0 s.a1) s.colour t).andThen fun t =>
      (emitRun (secondRun s.a1 s.a2) (opp s.colour) t).andThen fun t => .ok { t with a0 := (s.a2 : Int) }

/-- One iteration of ENCODE_LINE (R171). -/
def codingStep (s : State) : Res :=
  match selectMode s.a1 s.b1 s.b2 with
  | .pass => passStep s
  | .horizontal => horizontalStep s
  | .v0 => verticalStep .v0 s
  | .vr1 => verticalStep .vr1 s
  | .vr2 => verticalStep .vr2 s
  | .vr3 => verticalStep .vr3 s
  | .vl1 => verticalStep .vl1 s
  | .vl2 => verticalStep .vl2 s
  | .vl3 => verticalStep .vl3 s

/-- Coding steps while `A0 < W` (R171). A0 rises at every step of a session (R186), so that `W + 1` iterations are
enough; a loop that has not ended by then would not end (log 16). -/
def encodeLoop : Nat → State → Res
  | 0, s => if s.a0 < (s.W : Int) then .stop .lineNeverEnds else .ok s
  | fuel + 1, s => if s.a0 < (s.W : Int) then (codingStep s).andThen (encodeLoop fuel) else .ok s

/-- ENCODE_LINE (R171). -/
def encodeLine (s : State) : Res := encodeLoop (s.W + 1) { s with a0 := -1, colour := .white }

/-! ### Fetching -/

/-- The word that the next step runs, with the state after it has been taken; none where the host has issued no word. -/
def fetch (s : State) : Option (PortWord × State) :=
  match s.host with
  | w :: ws => some (w, { s with host := ws })
  | [] => none

/-- A word placed where the next step takes it. -/
def State.placeWord (s : State) (w : PortWord) : State := { s with host := w :: s.host.tail }

end Sys2Proof.Machine
end

