-- ==== Sys2Proof/Machine/BlackCodes.lean ====
section
/-! DEFINITION. The black run-length codewords BT0 to BT63 and BM64 to BM1728: each enters the stream by EMIT (R153, R155). -/

namespace Sys2Proof.Machine

/-- BT0 (R102, R153). -/
def execBt0 (s : State) : Host.Outcome State Fault Refusal := emitOnly (.run (.term .black 0)) s

/-- BT1 (R102, R153). -/
def execBt1 (s : State) : Host.Outcome State Fault Refusal := emitOnly (.run (.term .black 1)) s

/-- BT2 (R102, R153). -/
def execBt2 (s : State) : Host.Outcome State Fault Refusal := emitOnly (.run (.term .black 2)) s

/-- BT3 (R102, R153). -/
def execBt3 (s : State) : Host.Outcome State Fault Refusal := emitOnly (.run (.term .black 3)) s

/-- BT4 (R102, R153). -/
def execBt4 (s : State) : Host.Outcome State Fault Refusal := emitOnly (.run (.term .black 4)) s

/-- BT5 (R102, R153). -/
def execBt5 (s : State) : Host.Outcome State Fault Refusal := emitOnly (.run (.term .black 5)) s

/-- BT6 (R102, R153). -/
def execBt6 (s : State) : Host.Outcome State Fault Refusal := emitOnly (.run (.term .black 6)) s

/-- BT7 (R102, R153). -/
def execBt7 (s : State) : Host.Outcome State Fault Refusal := emitOnly (.run (.term .black 7)) s

/-- BT8 (R102, R153). -/
def execBt8 (s : State) : Host.Outcome State Fault Refusal := emitOnly (.run (.term .black 8)) s

/-- BT9 (R102, R153). -/
def execBt9 (s : State) : Host.Outcome State Fault Refusal := emitOnly (.run (.term .black 9)) s

/-- BT10 (R102, R153). -/
def execBt10 (s : State) : Host.Outcome State Fault Refusal := emitOnly (.run (.term .black 10)) s

/-- BT11 (R102, R153). -/
def execBt11 (s : State) : Host.Outcome State Fault Refusal := emitOnly (.run (.term .black 11)) s

/-- BT12 (R102, R153). -/
def execBt12 (s : State) : Host.Outcome State Fault Refusal := emitOnly (.run (.term .black 12)) s

/-- BT13 (R102, R153). -/
def execBt13 (s : State) : Host.Outcome State Fault Refusal := emitOnly (.run (.term .black 13)) s

/-- BT14 (R102, R153). -/
def execBt14 (s : State) : Host.Outcome State Fault Refusal := emitOnly (.run (.term .black 14)) s

/-- BT15 (R102, R153). -/
def execBt15 (s : State) : Host.Outcome State Fault Refusal := emitOnly (.run (.term .black 15)) s

/-- BT16 (R102, R153). -/
def execBt16 (s : State) : Host.Outcome State Fault Refusal := emitOnly (.run (.term .black 16)) s

/-- BT17 (R102, R153). -/
def execBt17 (s : State) : Host.Outcome State Fault Refusal := emitOnly (.run (.term .black 17)) s

/-- BT18 (R102, R153). -/
def execBt18 (s : State) : Host.Outcome State Fault Refusal := emitOnly (.run (.term .black 18)) s

/-- BT19 (R102, R153). -/
def execBt19 (s : State) : Host.Outcome State Fault Refusal := emitOnly (.run (.term .black 19)) s

/-- BT20 (R102, R153). -/
def execBt20 (s : State) : Host.Outcome State Fault Refusal := emitOnly (.run (.term .black 20)) s

/-- BT21 (R102, R153). -/
def execBt21 (s : State) : Host.Outcome State Fault Refusal := emitOnly (.run (.term .black 21)) s

/-- BT22 (R102, R153). -/
def execBt22 (s : State) : Host.Outcome State Fault Refusal := emitOnly (.run (.term .black 22)) s

/-- BT23 (R102, R153). -/
def execBt23 (s : State) : Host.Outcome State Fault Refusal := emitOnly (.run (.term .black 23)) s

/-- BT24 (R102, R153). -/
def execBt24 (s : State) : Host.Outcome State Fault Refusal := emitOnly (.run (.term .black 24)) s

/-- BT25 (R102, R153). -/
def execBt25 (s : State) : Host.Outcome State Fault Refusal := emitOnly (.run (.term .black 25)) s

/-- BT26 (R102, R153). -/
def execBt26 (s : State) : Host.Outcome State Fault Refusal := emitOnly (.run (.term .black 26)) s

/-- BT27 (R102, R153). -/
def execBt27 (s : State) : Host.Outcome State Fault Refusal := emitOnly (.run (.term .black 27)) s

/-- BT28 (R102, R153). -/
def execBt28 (s : State) : Host.Outcome State Fault Refusal := emitOnly (.run (.term .black 28)) s

/-- BT29 (R102, R153). -/
def execBt29 (s : State) : Host.Outcome State Fault Refusal := emitOnly (.run (.term .black 29)) s

/-- BT30 (R102, R153). -/
def execBt30 (s : State) : Host.Outcome State Fault Refusal := emitOnly (.run (.term .black 30)) s

/-- BT31 (R102, R153). -/
def execBt31 (s : State) : Host.Outcome State Fault Refusal := emitOnly (.run (.term .black 31)) s

/-- BT32 (R102, R153). -/
def execBt32 (s : State) : Host.Outcome State Fault Refusal := emitOnly (.run (.term .black 32)) s

/-- BT33 (R102, R153). -/
def execBt33 (s : State) : Host.Outcome State Fault Refusal := emitOnly (.run (.term .black 33)) s

/-- BT34 (R102, R153). -/
def execBt34 (s : State) : Host.Outcome State Fault Refusal := emitOnly (.run (.term .black 34)) s

/-- BT35 (R102, R153). -/
def execBt35 (s : State) : Host.Outcome State Fault Refusal := emitOnly (.run (.term .black 35)) s

/-- BT36 (R102, R153). -/
def execBt36 (s : State) : Host.Outcome State Fault Refusal := emitOnly (.run (.term .black 36)) s

/-- BT37 (R102, R153). -/
def execBt37 (s : State) : Host.Outcome State Fault Refusal := emitOnly (.run (.term .black 37)) s

/-- BT38 (R102, R153). -/
def execBt38 (s : State) : Host.Outcome State Fault Refusal := emitOnly (.run (.term .black 38)) s

/-- BT39 (R102, R153). -/
def execBt39 (s : State) : Host.Outcome State Fault Refusal := emitOnly (.run (.term .black 39)) s

/-- BT40 (R102, R153). -/
def execBt40 (s : State) : Host.Outcome State Fault Refusal := emitOnly (.run (.term .black 40)) s

/-- BT41 (R102, R153). -/
def execBt41 (s : State) : Host.Outcome State Fault Refusal := emitOnly (.run (.term .black 41)) s

/-- BT42 (R102, R153). -/
def execBt42 (s : State) : Host.Outcome State Fault Refusal := emitOnly (.run (.term .black 42)) s

/-- BT43 (R102, R153). -/
def execBt43 (s : State) : Host.Outcome State Fault Refusal := emitOnly (.run (.term .black 43)) s

/-- BT44 (R102, R153). -/
def execBt44 (s : State) : Host.Outcome State Fault Refusal := emitOnly (.run (.term .black 44)) s

/-- BT45 (R102, R153). -/
def execBt45 (s : State) : Host.Outcome State Fault Refusal := emitOnly (.run (.term .black 45)) s

/-- BT46 (R102, R153). -/
def execBt46 (s : State) : Host.Outcome State Fault Refusal := emitOnly (.run (.term .black 46)) s

/-- BT47 (R102, R153). -/
def execBt47 (s : State) : Host.Outcome State Fault Refusal := emitOnly (.run (.term .black 47)) s

/-- BT48 (R102, R153). -/
def execBt48 (s : State) : Host.Outcome State Fault Refusal := emitOnly (.run (.term .black 48)) s

/-- BT49 (R102, R153). -/
def execBt49 (s : State) : Host.Outcome State Fault Refusal := emitOnly (.run (.term .black 49)) s

/-- BT50 (R102, R153). -/
def execBt50 (s : State) : Host.Outcome State Fault Refusal := emitOnly (.run (.term .black 50)) s

/-- BT51 (R102, R153). -/
def execBt51 (s : State) : Host.Outcome State Fault Refusal := emitOnly (.run (.term .black 51)) s

/-- BT52 (R102, R153). -/
def execBt52 (s : State) : Host.Outcome State Fault Refusal := emitOnly (.run (.term .black 52)) s

/-- BT53 (R102, R153). -/
def execBt53 (s : State) : Host.Outcome State Fault Refusal := emitOnly (.run (.term .black 53)) s

/-- BT54 (R102, R153). -/
def execBt54 (s : State) : Host.Outcome State Fault Refusal := emitOnly (.run (.term .black 54)) s

/-- BT55 (R102, R153). -/
def execBt55 (s : State) : Host.Outcome State Fault Refusal := emitOnly (.run (.term .black 55)) s

/-- BT56 (R102, R153). -/
def execBt56 (s : State) : Host.Outcome State Fault Refusal := emitOnly (.run (.term .black 56)) s

/-- BT57 (R102, R153). -/
def execBt57 (s : State) : Host.Outcome State Fault Refusal := emitOnly (.run (.term .black 57)) s

/-- BT58 (R102, R153). -/
def execBt58 (s : State) : Host.Outcome State Fault Refusal := emitOnly (.run (.term .black 58)) s

/-- BT59 (R102, R153). -/
def execBt59 (s : State) : Host.Outcome State Fault Refusal := emitOnly (.run (.term .black 59)) s

/-- BT60 (R102, R153). -/
def execBt60 (s : State) : Host.Outcome State Fault Refusal := emitOnly (.run (.term .black 60)) s

/-- BT61 (R102, R153). -/
def execBt61 (s : State) : Host.Outcome State Fault Refusal := emitOnly (.run (.term .black 61)) s

/-- BT62 (R102, R153). -/
def execBt62 (s : State) : Host.Outcome State Fault Refusal := emitOnly (.run (.term .black 62)) s

/-- BT63 (R102, R153). -/
def execBt63 (s : State) : Host.Outcome State Fault Refusal := emitOnly (.run (.term .black 63)) s

/-- BM64 (R104, R155). -/
def execBm64 (s : State) : Host.Outcome State Fault Refusal := emitOnly (.run (.makeup .black 1)) s

/-- BM128 (R104, R155). -/
def execBm128 (s : State) : Host.Outcome State Fault Refusal := emitOnly (.run (.makeup .black 2)) s

/-- BM192 (R104, R155). -/
def execBm192 (s : State) : Host.Outcome State Fault Refusal := emitOnly (.run (.makeup .black 3)) s

/-- BM256 (R104, R155). -/
def execBm256 (s : State) : Host.Outcome State Fault Refusal := emitOnly (.run (.makeup .black 4)) s

/-- BM320 (R104, R155). -/
def execBm320 (s : State) : Host.Outcome State Fault Refusal := emitOnly (.run (.makeup .black 5)) s

/-- BM384 (R104, R155). -/
def execBm384 (s : State) : Host.Outcome State Fault Refusal := emitOnly (.run (.makeup .black 6)) s

/-- BM448 (R104, R155). -/
def execBm448 (s : State) : Host.Outcome State Fault Refusal := emitOnly (.run (.makeup .black 7)) s

/-- BM512 (R104, R155). -/
def execBm512 (s : State) : Host.Outcome State Fault Refusal := emitOnly (.run (.makeup .black 8)) s

/-- BM576 (R104, R155). -/
def execBm576 (s : State) : Host.Outcome State Fault Refusal := emitOnly (.run (.makeup .black 9)) s

/-- BM640 (R104, R155). -/
def execBm640 (s : State) : Host.Outcome State Fault Refusal := emitOnly (.run (.makeup .black 10)) s

/-- BM704 (R104, R155). -/
def execBm704 (s : State) : Host.Outcome State Fault Refusal := emitOnly (.run (.makeup .black 11)) s

/-- BM768 (R104, R155). -/
def execBm768 (s : State) : Host.Outcome State Fault Refusal := emitOnly (.run (.makeup .black 12)) s

/-- BM832 (R104, R155). -/
def execBm832 (s : State) : Host.Outcome State Fault Refusal := emitOnly (.run (.makeup .black 13)) s

/-- BM896 (R104, R155). -/
def execBm896 (s : State) : Host.Outcome State Fault Refusal := emitOnly (.run (.makeup .black 14)) s

/-- BM960 (R104, R155). -/
def execBm960 (s : State) : Host.Outcome State Fault Refusal := emitOnly (.run (.makeup .black 15)) s

/-- BM1024 (R104, R155). -/
def execBm1024 (s : State) : Host.Outcome State Fault Refusal := emitOnly (.run (.makeup .black 16)) s

/-- BM1088 (R104, R155). -/
def execBm1088 (s : State) : Host.Outcome State Fault Refusal := emitOnly (.run (.makeup .black 17)) s

/-- BM1152 (R104, R155). -/
def execBm1152 (s : State) : Host.Outcome State Fault Refusal := emitOnly (.run (.makeup .black 18)) s

/-- BM1216 (R104, R155). -/
def execBm1216 (s : State) : Host.Outcome State Fault Refusal := emitOnly (.run (.makeup .black 19)) s

/-- BM1280 (R104, R155). -/
def execBm1280 (s : State) : Host.Outcome State Fault Refusal := emitOnly (.run (.makeup .black 20)) s

/-- BM1344 (R104, R155). -/
def execBm1344 (s : State) : Host.Outcome State Fault Refusal := emitOnly (.run (.makeup .black 21)) s

/-- BM1408 (R104, R155). -/
def execBm1408 (s : State) : Host.Outcome State Fault Refusal := emitOnly (.run (.makeup .black 22)) s

/-- BM1472 (R104, R155). -/
def execBm1472 (s : State) : Host.Outcome State Fault Refusal := emitOnly (.run (.makeup .black 23)) s

/-- BM1536 (R104, R155). -/
def execBm1536 (s : State) : Host.Outcome State Fault Refusal := emitOnly (.run (.makeup .black 24)) s

/-- BM1600 (R104, R155). -/
def execBm1600 (s : State) : Host.Outcome State Fault Refusal := emitOnly (.run (.makeup .black 25)) s

/-- BM1664 (R104, R155). -/
def execBm1664 (s : State) : Host.Outcome State Fault Refusal := emitOnly (.run (.makeup .black 26)) s

/-- BM1728 (R104, R155). -/
def execBm1728 (s : State) : Host.Outcome State Fault Refusal := emitOnly (.run (.makeup .black 27)) s

end Sys2Proof.Machine
end

