-- ==== Sys2Proof/Machine/Commands.lean ====
section
/-! DEFINITION. The host commands and the hardware reset line (44_session_commands.md). -/

namespace Sys2Proof.Machine

/-- The session that a legal INIT starts (R221). The registers it does not write and R44 calls unspecified after it,
TB[1], A0 and COLOR, are free values (log 8). -/
def startSession (cfg : CfgRegs) (s : State) : State :=
  { s with
    stateReg := .initialized
    err := .success
    count := 0
    deliveredAtInit := s.delivered.length
    cfg := cfg
    rows := 0
    acc := 0
    nb := 0
    stg := []
    refsel := false
    tb0 := [cfg.width.toNat]
    tb1 := Config.freeTb1 s.freeCount
    a0 := Config.freeA0 s.freeCount
    colour := Config.freeColour s.freeCount
    freeCount := s.freeCount + 1 }

/-- INIT (R221). -/
def execInit (width : BitVec 16) (height : BitVec 32) (bitOrder sink : BitVec 8) (cap : BitVec 32) (s : State) :
    Host.Outcome State Fault Refusal :=
  if initLegal s.params width height bitOrder sink then
    .next ((startSession
      { width := width, height := height, bitOrder := bitOrderOf bitOrder, sink := sinkOf sink, cap := cap } s).answer
        .success 0)
  else .next ((unspecifyAll s).answer .invalidParameter 0)

/-- The end of the image (R222): on the last row EOFB, FLUSH_PARTIAL, STATE <- COMPLETE. -/
def finishRow (s : State) : Res :=
  if s.rows = s.cfg.height then
    (emitEofb s).andThen fun s => (flushPartial s).andThen fun s => .ok { s with stateReg := .complete }
  else .ok s

/-- The body of an accepted ADD_LINE (R222): EXTRACT, ENCODE_LINE, SWAP, ROWS <- ROWS + 1, the end of the image. -/
def addLineBody (line : List Byte) (s : State) : Res :=
  (extractLine { s with stateReg := .encoding, line := line }).andThen fun s =>
    (encodeLine s).andThen fun s =>
      finishRow { swapBuffers s with rows := s.rows + 1 }

/-- ADD_LINE(line) (R222). -/
def execAddLine (line : List Byte) (s : State) : Host.Outcome State Fault Refusal :=
  match s.stateReg with
  | .uninit => .next (s.answer .notInitialized 0)
  | .complete => .next (s.answer .imageComplete 0)
  | .failed => .next (s.answer s.err 0)
  | .initialized => settleCommand (addLineBody line s)
  | .encoding => settleCommand (addLineBody line s)

/-- GET_OUTPUT_SIZE (R225). -/
def execGetOutputSize (s : State) : Host.Outcome State Fault Refusal := .next (s.answer .success s.count)

/-- GET_ERROR (R226): ERR, zero-extended to the data word (R42). -/
def execGetError (s : State) : Host.Outcome State Fault Refusal :=
  .next (s.answer .success ((errCode s.err).setWidth 32))

/-- RESET, the hardware reset line (R227). -/
def execReset (s : State) : Host.Outcome State Fault Refusal := .next (hardReset s)

end Sys2Proof.Machine
end

