-- ==== Sys2Proof/Machine/MicroOps.lean ====
section
/-! DEFINITION. The micro-operations of 00_scope.md R14, each as an operation of its own (log 4). -/

namespace Sys2Proof.Machine

/-- EXTRACT (R132) on the LINE space as it stands. -/
def execExtract (s : State) : Host.Outcome State Fault Refusal := settle (extractLine s)

/-- ENCODE_LINE (R171). -/
def execEncodeLine (s : State) : Host.Outcome State Fault Refusal := settle (encodeLine s)

/-- RUN(n, c) (R151): it writes no register of the block; the codewords it returns stand in `codes` (log 19). A negative
length raises INVALID_PARAMETER (R157). -/
def execRun (n : Int) (c : Colour) (s : State) : Host.Outcome State Fault Refusal :=
  settle (match runOf n c with
    | some codes => .ok { s with codes := codes }
    | none => .raised .invalidParameter s)

/-- EMIT(cw) (R200). -/
def execEmit (cw : Bits) (s : State) : Host.Outcome State Fault Refusal := settle (emitBits cw s)

/-- PUSHBIT(b) (R201). -/
def execPushbit (b : Bool) (s : State) : Host.Outcome State Fault Refusal := settle (pushBit b s)

/-- WRITE_BYTE(v) (R202 to R204). -/
def execWriteByte (v : Byte) (s : State) : Host.Outcome State Fault Refusal := settle (writeByte v s)

/-- PUSH_SEGMENT (R205). -/
def execPushSegment (s : State) : Host.Outcome State Fault Refusal := settle (pushSegment s)

/-- FLUSH_PARTIAL (R206). -/
def execFlushPartial (s : State) : Host.Outcome State Fault Refusal := settle (flushPartial s)

/-- EOFB (R208). -/
def execEofb (s : State) : Host.Outcome State Fault Refusal := settle (emitEofb s)

/-- SWAP (R224). -/
def execSwap (s : State) : Host.Outcome State Fault Refusal := .next (swapBuffers s)

end Sys2Proof.Machine
end

