-- ==== Sys2Proof/Machine/ModeSteps.lean ====
section
/-! DEFINITION. The nine coding steps (42_mode_encoder.md R176 to R184). A step that is run by itself does not test the
condition under which ENCODE_LINE chooses it (log 4). -/

namespace Sys2Proof.Machine

/-- P (R176). -/
def execP (s : State) : Host.Outcome State Fault Refusal := settle (passStep s)

/-- H (R184). -/
def execH (s : State) : Host.Outcome State Fault Refusal := settle (horizontalStep s)

/-- V0 (R177). -/
def execV0 (s : State) : Host.Outcome State Fault Refusal := settle (verticalStep .v0 s)

/-- VR1 (R178). -/
def execVr1 (s : State) : Host.Outcome State Fault Refusal := settle (verticalStep .vr1 s)

/-- VR2 (R179). -/
def execVr2 (s : State) : Host.Outcome State Fault Refusal := settle (verticalStep .vr2 s)

/-- VR3 (R180). -/
def execVr3 (s : State) : Host.Outcome State Fault Refusal := settle (verticalStep .vr3 s)

/-- VL1 (R181). -/
def execVl1 (s : State) : Host.Outcome State Fault Refusal := settle (verticalStep .vl1 s)

/-- VL2 (R182). -/
def execVl2 (s : State) : Host.Outcome State Fault Refusal := settle (verticalStep .vl2 s)

/-- VL3 (R183). -/
def execVl3 (s : State) : Host.Outcome State Fault Refusal := settle (verticalStep .vl3 s)

end Sys2Proof.Machine
end

