-- ==== Sys2Proof/Machine/SharedCodes.lean ====
section
/-! DEFINITION. The extended makeup codewords XM1792 to XM2560, the same for both colours (R156), and EOL (R107). -/

namespace Sys2Proof.Machine

/-- XM1792 (R106, R156). -/
def execXm1792 (s : State) : Host.Outcome State Fault Refusal := emitOnly (.run (.ext 28)) s

/-- XM1856 (R106, R156). -/
def execXm1856 (s : State) : Host.Outcome State Fault Refusal := emitOnly (.run (.ext 29)) s

/-- XM1920 (R106, R156). -/
def execXm1920 (s : State) : Host.Outcome State Fault Refusal := emitOnly (.run (.ext 30)) s

/-- XM1984 (R106, R156). -/
def execXm1984 (s : State) : Host.Outcome State Fault Refusal := emitOnly (.run (.ext 31)) s

/-- XM2048 (R106, R156). -/
def execXm2048 (s : State) : Host.Outcome State Fault Refusal := emitOnly (.run (.ext 32)) s

/-- XM2112 (R106, R156). -/
def execXm2112 (s : State) : Host.Outcome State Fault Refusal := emitOnly (.run (.ext 33)) s

/-- XM2176 (R106, R156). -/
def execXm2176 (s : State) : Host.Outcome State Fault Refusal := emitOnly (.run (.ext 34)) s

/-- XM2240 (R106, R156). -/
def execXm2240 (s : State) : Host.Outcome State Fault Refusal := emitOnly (.run (.ext 35)) s

/-- XM2304 (R106, R156). -/
def execXm2304 (s : State) : Host.Outcome State Fault Refusal := emitOnly (.run (.ext 36)) s

/-- XM2368 (R106, R156). -/
def execXm2368 (s : State) : Host.Outcome State Fault Refusal := emitOnly (.run (.ext 37)) s

/-- XM2432 (R106, R156). -/
def execXm2432 (s : State) : Host.Outcome State Fault Refusal := emitOnly (.run (.ext 38)) s

/-- XM2496 (R106, R156). -/
def execXm2496 (s : State) : Host.Outcome State Fault Refusal := emitOnly (.run (.ext 39)) s

/-- XM2560 (R106, R156). -/
def execXm2560 (s : State) : Host.Outcome State Fault Refusal := emitOnly (.run (.ext 40)) s

/-- EOL (R107): the codeword enters the stream by EMIT (R200); the block itself emits it only inside EOFB (R208). -/
def execEol (s : State) : Host.Outcome State Fault Refusal := emitOnly (.eol) s

end Sys2Proof.Machine
end

