-- ==== Sys2Proof/Machine/WhiteCodes.lean ====
section
/-! DEFINITION. The white run-length codewords WT0 to WT63 and WM64 to WM1728: each enters the stream by EMIT (R152, R154). -/

namespace Sys2Proof.Machine

/-- WT0 (R101, R152). -/
def execWt0 (s : State) : Host.Outcome State Fault Refusal := emitOnly (.run (.term .white 0)) s

/-- WT1 (R101, R152). -/
def execWt1 (s : State) : Host.Outcome State Fault Refusal := emitOnly (.run (.term .white 1)) s

/-- WT2 (R101, R152). -/
def execWt2 (s : State) : Host.Outcome State Fault Refusal := emitOnly (.run (.term .white 2)) s

/-- WT3 (R101, R152). -/
def execWt3 (s : State) : Host.Outcome State Fault Refusal := emitOnly (.run (.term .white 3)) s

/-- WT4 (R101, R152). -/
def execWt4 (s : State) : Host.Outcome State Fault Refusal := emitOnly (.run (.term .white 4)) s

/-- WT5 (R101, R152). -/
def execWt5 (s : State) : Host.Outcome State Fault Refusal := emitOnly (.run (.term .white 5)) s

/-- WT6 (R101, R152). -/
def execWt6 (s : State) : Host.Outcome State Fault Refusal := emitOnly (.run (.term .white 6)) s

/-- WT7 (R101, R152). -/
def execWt7 (s : State) : Host.Outcome State Fault Refusal := emitOnly (.run (.term .white 7)) s

/-- WT8 (R101, R152). -/
def execWt8 (s : State) : Host.Outcome State Fault Refusal := emitOnly (.run (.term .white 8)) s

/-- WT9 (R101, R152). -/
def execWt9 (s : State) : Host.Outcome State Fault Refusal := emitOnly (.run (.term .white 9)) s

/-- WT10 (R101, R152). -/
def execWt10 (s : State) : Host.Outcome State Fault Refusal := emitOnly (.run (.term .white 10)) s

/-- WT11 (R101, R152). -/
def execWt11 (s : State) : Host.Outcome State Fault Refusal := emitOnly (.run (.term .white 11)) s

/-- WT12 (R101, R152). -/
def execWt12 (s : State) : Host.Outcome State Fault Refusal := emitOnly (.run (.term .white 12)) s

/-- WT13 (R101, R152). -/
def execWt13 (s : State) : Host.Outcome State Fault Refusal := emitOnly (.run (.term .white 13)) s

/-- WT14 (R101, R152). -/
def execWt14 (s : State) : Host.Outcome State Fault Refusal := emitOnly (.run (.term .white 14)) s

/-- WT15 (R101, R152). -/
def execWt15 (s : State) : Host.Outcome State Fault Refusal := emitOnly (.run (.term .white 15)) s

/-- WT16 (R101, R152). -/
def execWt16 (s : State) : Host.Outcome State Fault Refusal := emitOnly (.run (.term .white 16)) s

/-- WT17 (R101, R152). -/
def execWt17 (s : State) : Host.Outcome State Fault Refusal := emitOnly (.run (.term .white 17)) s

/-- WT18 (R101, R152). -/
def execWt18 (s : State) : Host.Outcome State Fault Refusal := emitOnly (.run (.term .white 18)) s

/-- WT19 (R101, R152). -/
def execWt19 (s : State) : Host.Outcome State Fault Refusal := emitOnly (.run (.term .white 19)) s

/-- WT20 (R101, R152). -/
def execWt20 (s : State) : Host.Outcome State Fault Refusal := emitOnly (.run (.term .white 20)) s

/-- WT21 (R101, R152). -/
def execWt21 (s : State) : Host.Outcome State Fault Refusal := emitOnly (.run (.term .white 21)) s

/-- WT22 (R101, R152). -/
def execWt22 (s : State) : Host.Outcome State Fault Refusal := emitOnly (.run (.term .white 22)) s

/-- WT23 (R101, R152). -/
def execWt23 (s : State) : Host.Outcome State Fault Refusal := emitOnly (.run (.term .white 23)) s

/-- WT24 (R101, R152). -/
def execWt24 (s : State) : Host.Outcome State Fault Refusal := emitOnly (.run (.term .white 24)) s

/-- WT25 (R101, R152). -/
def execWt25 (s : State) : Host.Outcome State Fault Refusal := emitOnly (.run (.term .white 25)) s

/-- WT26 (R101, R152). -/
def execWt26 (s : State) : Host.Outcome State Fault Refusal := emitOnly (.run (.term .white 26)) s

/-- WT27 (R101, R152). -/
def execWt27 (s : State) : Host.Outcome State Fault Refusal := emitOnly (.run (.term .white 27)) s

/-- WT28 (R101, R152). -/
def execWt28 (s : State) : Host.Outcome State Fault Refusal := emitOnly (.run (.term .white 28)) s

/-- WT29 (R101, R152). -/
def execWt29 (s : State) : Host.Outcome State Fault Refusal := emitOnly (.run (.term .white 29)) s

/-- WT30 (R101, R152). -/
def execWt30 (s : State) : Host.Outcome State Fault Refusal := emitOnly (.run (.term .white 30)) s

/-- WT31 (R101, R152). -/
def execWt31 (s : State) : Host.Outcome State Fault Refusal := emitOnly (.run (.term .white 31)) s

/-- WT32 (R101, R152). -/
def execWt32 (s : State) : Host.Outcome State Fault Refusal := emitOnly (.run (.term .white 32)) s

/-- WT33 (R101, R152). -/
def execWt33 (s : State) : Host.Outcome State Fault Refusal := emitOnly (.run (.term .white 33)) s

/-- WT34 (R101, R152). -/
def execWt34 (s : State) : Host.Outcome State Fault Refusal := emitOnly (.run (.term .white 34)) s

/-- WT35 (R101, R152). -/
def execWt35 (s : State) : Host.Outcome State Fault Refusal := emitOnly (.run (.term .white 35)) s

/-- WT36 (R101, R152). -/
def execWt36 (s : State) : Host.Outcome State Fault Refusal := emitOnly (.run (.term .white 36)) s

/-- WT37 (R101, R152). -/
def execWt37 (s : State) : Host.Outcome State Fault Refusal := emitOnly (.run (.term .white 37)) s

/-- WT38 (R101, R152). -/
def execWt38 (s : State) : Host.Outcome State Fault Refusal := emitOnly (.run (.term .white 38)) s

/-- WT39 (R101, R152). -/
def execWt39 (s : State) : Host.Outcome State Fault Refusal := emitOnly (.run (.term .white 39)) s

/-- WT40 (R101, R152). -/
def execWt40 (s : State) : Host.Outcome State Fault Refusal := emitOnly (.run (.term .white 40)) s

/-- WT41 (R101, R152). -/
def execWt41 (s : State) : Host.Outcome State Fault Refusal := emitOnly (.run (.term .white 41)) s

/-- WT42 (R101, R152). -/
def execWt42 (s : State) : Host.Outcome State Fault Refusal := emitOnly (.run (.term .white 42)) s

/-- WT43 (R101, R152). -/
def execWt43 (s : State) : Host.Outcome State Fault Refusal := emitOnly (.run (.term .white 43)) s

/-- WT44 (R101, R152). -/
def execWt44 (s : State) : Host.Outcome State Fault Refusal := emitOnly (.run (.term .white 44)) s

/-- WT45 (R101, R152). -/
def execWt45 (s : State) : Host.Outcome State Fault Refusal := emitOnly (.run (.term .white 45)) s

/-- WT46 (R101, R152). -/
def execWt46 (s : State) : Host.Outcome State Fault Refusal := emitOnly (.run (.term .white 46)) s

/-- WT47 (R101, R152). -/
def execWt47 (s : State) : Host.Outcome State Fault Refusal := emitOnly (.run (.term .white 47)) s

/-- WT48 (R101, R152). -/
def execWt48 (s : State) : Host.Outcome State Fault Refusal := emitOnly (.run (.term .white 48)) s

/-- WT49 (R101, R152). -/
def execWt49 (s : State) : Host.Outcome State Fault Refusal := emitOnly (.run (.term .white 49)) s

/-- WT50 (R101, R152). -/
def execWt50 (s : State) : Host.Outcome State Fault Refusal := emitOnly (.run (.term .white 50)) s

/-- WT51 (R101, R152). -/
def execWt51 (s : State) : Host.Outcome State Fault Refusal := emitOnly (.run (.term .white 51)) s

/-- WT52 (R101, R152). -/
def execWt52 (s : State) : Host.Outcome State Fault Refusal := emitOnly (.run (.term .white 52)) s

/-- WT53 (R101, R152). -/
def execWt53 (s : State) : Host.Outcome State Fault Refusal := emitOnly (.run (.term .white 53)) s

/-- WT54 (R101, R152). -/
def execWt54 (s : State) : Host.Outcome State Fault Refusal := emitOnly (.run (.term .white 54)) s

/-- WT55 (R101, R152). -/
def execWt55 (s : State) : Host.Outcome State Fault Refusal := emitOnly (.run (.term .white 55)) s

/-- WT56 (R101, R152). -/
def execWt56 (s : State) : Host.Outcome State Fault Refusal := emitOnly (.run (.term .white 56)) s

/-- WT57 (R101, R152). -/
def execWt57 (s : State) : Host.Outcome State Fault Refusal := emitOnly (.run (.term .white 57)) s

/-- WT58 (R101, R152). -/
def execWt58 (s : State) : Host.Outcome State Fault Refusal := emitOnly (.run (.term .white 58)) s

/-- WT59 (R101, R152). -/
def execWt59 (s : State) : Host.Outcome State Fault Refusal := emitOnly (.run (.term .white 59)) s

/-- WT60 (R101, R152). -/
def execWt60 (s : State) : Host.Outcome State Fault Refusal := emitOnly (.run (.term .white 60)) s

/-- WT61 (R101, R152). -/
def execWt61 (s : State) : Host.Outcome State Fault Refusal := emitOnly (.run (.term .white 61)) s

/-- WT62 (R101, R152). -/
def execWt62 (s : State) : Host.Outcome State Fault Refusal := emitOnly (.run (.term .white 62)) s

/-- WT63 (R101, R152). -/
def execWt63 (s : State) : Host.Outcome State Fault Refusal := emitOnly (.run (.term .white 63)) s

/-- WM64 (R103, R154). -/
def execWm64 (s : State) : Host.Outcome State Fault Refusal := emitOnly (.run (.makeup .white 1)) s

/-- WM128 (R103, R154). -/
def execWm128 (s : State) : Host.Outcome State Fault Refusal := emitOnly (.run (.makeup .white 2)) s

/-- WM192 (R103, R154). -/
def execWm192 (s : State) : Host.Outcome State Fault Refusal := emitOnly (.run (.makeup .white 3)) s

/-- WM256 (R103, R154). -/
def execWm256 (s : State) : Host.Outcome State Fault Refusal := emitOnly (.run (.makeup .white 4)) s

/-- WM320 (R103, R154). -/
def execWm320 (s : State) : Host.Outcome State Fault Refusal := emitOnly (.run (.makeup .white 5)) s

/-- WM384 (R103, R154). -/
def execWm384 (s : State) : Host.Outcome State Fault Refusal := emitOnly (.run (.makeup .white 6)) s

/-- WM448 (R103, R154). -/
def execWm448 (s : State) : Host.Outcome State Fault Refusal := emitOnly (.run (.makeup .white 7)) s

/-- WM512 (R103, R154). -/
def execWm512 (s : State) : Host.Outcome State Fault Refusal := emitOnly (.run (.makeup .white 8)) s

/-- WM576 (R103, R154). -/
def execWm576 (s : State) : Host.Outcome State Fault Refusal := emitOnly (.run (.makeup .white 9)) s

/-- WM640 (R103, R154). -/
def execWm640 (s : State) : Host.Outcome State Fault Refusal := emitOnly (.run (.makeup .white 10)) s

/-- WM704 (R103, R154). -/
def execWm704 (s : State) : Host.Outcome State Fault Refusal := emitOnly (.run (.makeup .white 11)) s

/-- WM768 (R103, R154). -/
def execWm768 (s : State) : Host.Outcome State Fault Refusal := emitOnly (.run (.makeup .white 12)) s

/-- WM832 (R103, R154). -/
def execWm832 (s : State) : Host.Outcome State Fault Refusal := emitOnly (.run (.makeup .white 13)) s

/-- WM896 (R103, R154). -/
def execWm896 (s : State) : Host.Outcome State Fault Refusal := emitOnly (.run (.makeup .white 14)) s

/-- WM960 (R103, R154). -/
def execWm960 (s : State) : Host.Outcome State Fault Refusal := emitOnly (.run (.makeup .white 15)) s

/-- WM1024 (R103, R154). -/
def execWm1024 (s : State) : Host.Outcome State Fault Refusal := emitOnly (.run (.makeup .white 16)) s

/-- WM1088 (R103, R154). -/
def execWm1088 (s : State) : Host.Outcome State Fault Refusal := emitOnly (.run (.makeup .white 17)) s

/-- WM1152 (R103, R154). -/
def execWm1152 (s : State) : Host.Outcome State Fault Refusal := emitOnly (.run (.makeup .white 18)) s

/-- WM1216 (R103, R154). -/
def execWm1216 (s : State) : Host.Outcome State Fault Refusal := emitOnly (.run (.makeup .white 19)) s

/-- WM1280 (R103, R154). -/
def execWm1280 (s : State) : Host.Outcome State Fault Refusal := emitOnly (.run (.makeup .white 20)) s

/-- WM1344 (R103, R154). -/
def execWm1344 (s : State) : Host.Outcome State Fault Refusal := emitOnly (.run (.makeup .white 21)) s

/-- WM1408 (R103, R154). -/
def execWm1408 (s : State) : Host.Outcome State Fault Refusal := emitOnly (.run (.makeup .white 22)) s

/-- WM1472 (R103, R154). -/
def execWm1472 (s : State) : Host.Outcome State Fault Refusal := emitOnly (.run (.makeup .white 23)) s

/-- WM1536 (R103, R154). -/
def execWm1536 (s : State) : Host.Outcome State Fault Refusal := emitOnly (.run (.makeup .white 24)) s

/-- WM1600 (R103, R154). -/
def execWm1600 (s : State) : Host.Outcome State Fault Refusal := emitOnly (.run (.makeup .white 25)) s

/-- WM1664 (R103, R154). -/
def execWm1664 (s : State) : Host.Outcome State Fault Refusal := emitOnly (.run (.makeup .white 26)) s

/-- WM1728 (R103, R154). -/
def execWm1728 (s : State) : Host.Outcome State Fault Refusal := emitOnly (.run (.makeup .white 27)) s

end Sys2Proof.Machine
end

