-- ==== Sys2Proof/Machine/Step.lean ====
section
/-! DEFINITION. One step: the next word of the host is taken, decoded and run to completion. -/

namespace Sys2Proof.Machine

/-- One step (00_scope.md R12). With no word waiting the block is idle and keeps all state (60_exceptions.md R271). -/
def step (s : State) : Host.Outcome State Fault Refusal :=
  match fetch s with
  | none => .next s
  | some (w, s') =>
    match decode w with
    | .ok i => exec i s'
    | .bad e => .refused (.malformedWord e)

/-- The word of the opcode table whose bits are `w`, placed where the next step takes it; unchanged where no operation has
those bits. -/
def State.withFetchWord (s : State) (nbits w : Nat) : State :=
  match tableWord nbits w with
  | some word => s.placeWord word
  | none => s

end Sys2Proof.Machine
end

