-- ==== Sys2Proof/Machine/Image.lean ====
section
/-! DEFINITION. The block as pure functions, for statements: `line_codes` (42_mode_encoder.md R188), `pack`
(43_bitpacker.md R207), the compressed image `G4` (44_session_commands.md R233), and what EMIT leaves in the state. -/

namespace Sys2Proof.Machine

/-! ### A line -/

/-- A coding step with its operands (30_encoding.md R92, R94). -/
inductive CodingStep where
  | pass
  | vertical (m : Mode)
  | horizontal (c : Colour) (n1 n2 : Nat)
deriving DecidableEq, Repr

/-- The bits of the codewords of a run (R93). -/
def runBits (n : Nat) (c : Colour) : Bits := (runCodes n c).flatMap RunCode.bits

/-- The bits of a coding step (R92). -/
def CodingStep.bits : CodingStep → Bits
  | .pass => Mode.pass.bits
  | .vertical m => m.bits
  | .horizontal c n1 n2 => Mode.horizontal.bits ++ runBits n1 c ++ runBits n2 (opp c)

/-- COLOR after a coding step: a vertical step toggles it (R38). -/
def CodingStep.colourAfter (c : Colour) : CodingStep → Colour
  | .pass => c
  | .vertical _ => opp c
  | .horizontal _ _ _ => c

/-- The coding step chosen at `a0` and `c`, with the a0 it leaves (R171 to R184). -/
def chooseStep (ref cur : List Nat) (w : Nat) (a0 : Int) (c : Colour) : CodingStep × Int :=
  let a := aPair cur w a0
  let b := bPair ref w a0 c
  match selectMode a.1 b.1 b.2 with
  | .pass => (.pass, (b.2 : Int))
  | .horizontal => (.horizontal c (firstRun a0 a.1).toNat (secondRun a.1 a.2).toNat, (a.2 : Int))
  | m => (.vertical m, (a.1 : Int))

/-- The coding steps of a line from `a0` and `c` on (R171), at most `fuel` of them. -/
def stepsFrom (ref cur : List Nat) (w : Nat) : Nat → Int → Colour → List CodingStep
  | 0, _, _ => []
  | fuel + 1, a0, c =>
    if a0 < (w : Int) then
      let st := chooseStep ref cur w a0 c
      st.1 :: stepsFrom ref cur w fuel st.2 (st.1.colourAfter c)
    else []

/-- The coding steps of a line (R171, R188). -/
def lineSteps (ref cur : List Nat) (w : Nat) : List CodingStep := stepsFrom ref cur w (w + 1) (-1) .white

/-- `line_codes(REF, CUR, W)` as the bits of its codewords (R188). -/
def lineBits (ref cur : List Nat) (w : Nat) : Bits := (lineSteps ref cur w).flatMap CodingStep.bits

/-- COLOR at the end of a line (R36, R38). -/
def lineColour (ref cur : List Nat) (w : Nat) : Colour :=
  (lineSteps ref cur w).foldl CodingStep.colourAfter .white

/-! ### Packing -/

/-- Up to eight stream bits with zero pad bits (R206, R207). -/
def padEight (bs : Bits) : Bits := (bs ++ List.replicate 8 false).take 8

/-- One output byte: in MSB_FIRST its first stream bit is bit 7, in LSB_FIRST bit 0 (R65, R66, R207). -/
def packByte (order : BitOrder) (bs : Bits) : Byte :=
  match order with
  | .msbFirst => BitVec.ofNat 8 (natOfBits (padEight bs))
  | .lsbFirst => BitVec.ofNat 8 (natOfBits (padEight bs).reverse)

/-- The first `n` bytes of a stream. -/
def packBytes (order : BitOrder) : Nat → Bits → List Byte
  | 0, _ => []
  | n + 1, bs => packByte order (bs.take 8) :: packBytes order n (bs.drop 8)

/-- `pack(s, order)` (R207): `ceil8(n)` bytes. -/
def pack (order : BitOrder) (bs : Bits) : List Byte := packBytes order (ceil8 bs.length) bs

/-- `rev8(b)`: a byte with its bit order reversed (00_scope.md R6). -/
def rev8 (b : Byte) : Byte := b.reverse

/-! ### An image -/

/-- The transition sequence of a scanline (R233: `T_y`). -/
def lineSeq (order : BitOrder) (w : Nat) (line : List Byte) : List Nat := extractSeq (pix order line) w

/-- The bits of the lines of an image, each against the one before it (R233: `bits_y`). -/
def rowsBits (order : BitOrder) (w : Nat) : List Nat → List (List Byte) → Bits
  | _, [] => []
  | ref, line :: lines => lineBits ref (lineSeq order w line) w ++ rowsBits order w (lineSeq order w line) lines

/-- The bits of EOFB (R107, R208). -/
def eofbBits (p : Params) : Bits := if p.eofb then eolRow.bits ++ eolRow.bits else []

/-- The stream `S` of an image (R91, R233). -/
def imageBits (p : Params) (order : BitOrder) (w : Nat) (lines : List (List Byte)) : Bits :=
  rowsBits order w [w] lines ++ eofbBits p

/-- `G4(image, W, order)` (R233). -/
def g4 (p : Params) (order : BitOrder) (w : Nat) (lines : List (List Byte)) : List Byte :=
  pack order (imageBits p order w lines)

/-! ### What EMIT leaves -/

/-- The stream bits that ACC holds, first one first (R30). -/
def State.pending (s : State) : Bits :=
  (List.range s.nb.toNat).map fun j => s.acc.getLsbD (bitPos s.cfg.bitOrder j)

/-- The stream bits that are in the packer once `bs` has been emitted. -/
def State.streamWith (s : State) (bs : Bits) : Bits := s.pending ++ bs

/-- How many bytes the emission of `bs` completes (R200, R201). -/
def State.bytesDone (s : State) (bs : Bits) : Nat := (s.nb.toNat + bs.length) / 8

/-- The bytes that the emission of `bs` completes (R65, R66). -/
def State.newBytes (s : State) (bs : Bits) : List Byte :=
  packBytes s.cfg.bitOrder (s.bytesDone bs) (s.streamWith bs)

/-- The stream bits left pending after the emission of `bs`. -/
def State.leftover (s : State) (bs : Bits) : Bits := (s.streamWith bs).drop (8 * s.bytesDone bs)

/-- ACC and NB after the emission of `bs` (R30, R201). -/
def State.packed (s : State) (bs : Bits) : State :=
  { s with
    acc := packByte s.cfg.bitOrder (s.leftover bs)
    nb := BitVec.ofNat 3 (s.leftover bs).length }

/-- The state after bytes have been stored at COUNT and counted (R203). -/
def State.stored (s : State) (vs : List Byte) : State :=
  { s with out := writeBytes s.out s.count.toNat vs, count := s.count + BitVec.ofNat 32 vs.length }

/-- The segments that bytes complete on top of a staged part of one, and what stays staged (R204, R205). -/
def segmentsOf (segSize : Nat) : List Byte → List Byte → List (List Byte) × List Byte
  | stg, [] => ([], stg)
  | stg, v :: vs =>
    if (stg ++ [v]).length = segSize then
      let r := segmentsOf segSize [] vs
      ((stg ++ [v]) :: r.1, r.2)
    else segmentsOf segSize (stg ++ [v]) vs

/-- The state after segments have been delivered, each answered with the environment's next OK, with `rest` staged
(R205). -/
def State.pushed (s : State) (segs : List (List Byte)) (rest : List Byte) : State :=
  { s with
    delivered := s.delivered ++ segs
    count := s.count + BitVec.ofNat 32 segs.flatten.length
    stg := rest
    sinkReplies := s.sinkReplies.drop segs.length }

/-- The sink answers the next `n` pushes with OK (R63). -/
def State.repliesOk (s : State) (n : Nat) : Bool := s.sinkReplies.take n == List.replicate n SinkReply.ok

/-- The output takes all the bytes that the emission of `bs` completes, and no reset is asserted: FIXED with room
for them (R203); STREAM with STGN below SEG_SIZE, every segment they fill answered with OK, COUNT within 32 bits
(R29, R204, R205). -/
def State.room (s : State) (bs : Bits) : Bool :=
  decide (s.resetIn = none) &&
    match s.cfg.sink with
    | .fixed => decide (s.count.toNat + s.bytesDone bs ≤ s.cfg.cap.toNat)
    | .stream =>
      let r := segmentsOf s.params.segSize s.stg (s.newBytes bs)
      decide (s.stg.length < s.params.segSize) && s.repliesOk r.1.length
        && decide (s.count.toNat + r.1.flatten.length < 4294967296)

/-- The state after `bs` has been emitted to an output that takes it (R200 to R205). -/
def State.emitted (s : State) (bs : Bits) : State :=
  match s.cfg.sink with
  | .fixed => (s.packed bs).stored (s.newBytes bs)
  | .stream =>
    let r := segmentsOf s.params.segSize s.stg (s.newBytes bs)
    (s.packed bs).pushed r.1 r.2

/-! ### What FLUSH_PARTIAL leaves -/

/-- The bytes that FLUSH_PARTIAL hands over: in STREAM mode the staged ones, then the padded byte where bits are
pending (R206). -/
def State.tailBytes (s : State) : List Byte :=
  (match s.cfg.sink with
    | .fixed => []
    | .stream => s.stg) ++ (if s.nb = 0 then [] else [s.acc])

/-- The output takes what FLUSH_PARTIAL hands over, and no reset is asserted. -/
def State.flushRoom (s : State) : Bool :=
  decide (s.resetIn = none) &&
    match s.cfg.sink with
    | .fixed => decide (s.count.toNat + s.tailBytes.length ≤ s.cfg.cap.toNat)
    | .stream =>
      decide (s.stg.length < s.params.segSize) &&
        (s.tailBytes.isEmpty || (s.repliesOk 1 && decide (s.count.toNat + s.tailBytes.length < 4294967296)))

/-- The state after FLUSH_PARTIAL (R206): nothing pending, and in STREAM mode nothing staged. -/
def State.flushed (s : State) : State :=
  let t := if s.nb = 0 then s else { s with acc := 0, nb := 0 }
  match s.cfg.sink with
  | .fixed => t.stored s.tailBytes
  | .stream => if s.tailBytes = [] then t else t.pushed [s.tailBytes] []

/-! ### What ADD_LINE leaves -/

/-- The bits of a scanline against the reference of the state (R233: `bits_y`). -/
def State.bitsOf (s : State) (line : List Byte) : Bits := lineBits s.ref (lineSeq s.cfg.bitOrder s.W line) s.W

/-- The bytes that an ADD_LINE hands to WRITE_BYTE, in order (R222): those its line completes; on the last row all that are
left of the stream, with EOFB where the parameter asks for it and the zero padding of FLUSH_PARTIAL (R206 to R208). -/
def State.commandBytes (s : State) (line : List Byte) : List Byte :=
  if s.rows + 1 = s.cfg.height then pack s.cfg.bitOrder (s.streamWith (s.bitsOf line ++ eofbBits s.params))
  else s.newBytes (s.bitsOf line)

/-- The segments that an ADD_LINE pushes to the sink, in order (R204, R205); on the last row FLUSH_PARTIAL pushes what is
still staged (R206). -/
def State.commandSegments (s : State) (line : List Byte) : List (List Byte) :=
  let r := segmentsOf s.params.segSize s.stg (s.commandBytes line)
  if s.rows + 1 = s.cfg.height ∧ r.2 ≠ [] then r.1 ++ [r.2] else r.1

/-- The state with a scanline in LINE and its transition sequence in CUR, in ENCODING (R132, R222). -/
def State.extracted (s : State) (line : List Byte) : State :=
  ({ s with stateReg := .encoding, line := line } : State).setCur (lineSeq s.cfg.bitOrder s.W line)

/-- The state after ENCODE_LINE (R171). -/
def State.lineCoded (s : State) : State :=
  { s.emitted (lineBits s.ref s.cur s.W) with a0 := (s.W : Int), colour := lineColour s.ref s.cur s.W }

/-- The state after the line of an ADD_LINE, before the end of the image is looked at (R222). -/
def State.lineDone (s : State) (line : List Byte) : State :=
  { swapBuffers (s.extracted line).lineCoded with rows := s.rows + 1 }

/-- The state after the end of the image (R222): EOFB, FLUSH_PARTIAL, COMPLETE. -/
def State.imageDone (s : State) : State :=
  { (s.emitted (eofbBits s.params)).flushed with stateReg := .complete }

end Sys2Proof.Machine
end

