-- ==== Sys2Proof/Safety.lean ====
section
/-! DEFINITION. What counts as a good state and a good run, in the terms of the statements: well-formed transition
sequences (40_transition_extractor.md R133), the accumulator (10_state.md R30), the invariants of a session (R41), and runs
of commands. -/

namespace Sys2Proof.Machine

/-- Strictly rising. -/
def rising : List Nat → Bool
  | [] => true
  | [_] => true
  | a :: b :: t => decide (a < b) && rising (b :: t)

/-- A transition sequence of a line of width `w` is well formed (R133 (a) to (d)): not empty, strictly rising, its last
entry, and no other, is `w`. -/
def seqWf (w : Nat) (t : List Nat) : Bool := rising t && (t.getLast? == some w)

/-- Every bit position of ACC not yet filled is 0 (R30). -/
def State.accClean (s : State) : Bool :=
  (List.range 8).all fun j => decide (j < s.nb.toNat) || !s.acc.getLsbD (bitPos s.cfg.bitOrder j)

/-- The constraints of R4 on the open parameters. -/
def paramsWf (p : Params) : Bool :=
  decide (1 ≤ p.maxTransitions) && decide (p.maxTransitions ≤ 65535) && decide (1 ≤ p.segSize)

/-- A session that has not failed exists (R41). -/
def State.live (s : State) : Bool :=
  match s.stateReg with
  | .uninit => false
  | .initialized => true
  | .encoding => true
  | .complete => true
  | .failed => false

/-- What holds of every state, whatever operation is run (R4, R29, R62). -/
structure CoreInv (s : State) : Prop where
  /-- The parameters are legal (R4). -/
  params : paramsWf s.params = true
  /-- OUT keeps its canonical form. -/
  memory : s.out.wf = true
  /-- In FIXED mode `COUNT <= CFG.CAP` (R29). -/
  fill : s.cfg.sink = .fixed → s.count.toNat ≤ s.cfg.cap.toNat

/-- What holds of a session between commands (R41, with R21, R22, R30, R31, R206). -/
structure LiveInv (s : State) : Prop where
  /-- WIDTH is legal (R21). -/
  widthPos : 1 ≤ s.W
  /-- WIDTH is legal (R21). -/
  widthMax : s.W ≤ s.params.maxTransitions
  /-- HEIGHT is legal (R22). -/
  heightPos : 1 ≤ s.cfg.height.toNat
  /-- `ROWS <= CFG.HEIGHT` (R41 (a)). -/
  rowsLe : s.rows.toNat ≤ s.cfg.height.toNat
  /-- COMPLETE iff `ROWS = CFG.HEIGHT` (R41 (a)). -/
  completeIff : s.stateReg = .complete ↔ s.rows = s.cfg.height
  /-- INITIALIZED iff no line has been accepted (R41 (e)). -/
  initializedIff : s.stateReg = .initialized ↔ s.rows = 0
  /-- The reference is well formed (R41 (b)). -/
  reference : seqWf s.W s.ref = true
  /-- The free positions of ACC are 0 (R30). -/
  acc : s.accClean = true
  /-- STGN is below SEG_SIZE between micro-operations (R31). -/
  staged : s.stg.length < s.params.segSize
  /-- STG is used only in STREAM mode (R31). -/
  unstaged : s.cfg.sink = .fixed → s.stg = []
  /-- Nothing is pending in COMPLETE (R206). -/
  flushed : s.stateReg = .complete → s.nb = 0 ∧ s.stg = []

/-- A word that a host can issue: a command, or the reset line (R220). -/
def hostPort : Port → Bool
  | .mode => false
  | .white => false
  | .black => false
  | .command => true
  | .micro _ => false
  | .resetLine => true

/-- The invariant of a block that is driven by commands and the reset line only. -/
structure SessionInv (s : State) : Prop where
  /-- What holds whatever is run. -/
  core : CoreInv s
  /-- ERR is NONE unless FAILED (R28). -/
  errNone : s.stateReg ≠ .failed → s.err = .success
  /-- In FAILED ERR is the cause (R28). -/
  errCause : s.stateReg = .failed → s.err = .dataOverflow ∨ s.err = .ioError
  /-- Without a session COUNT is 0 (R225). -/
  uninitCount : s.stateReg = .uninit → s.count = 0
  /-- In STREAM mode COUNT is the number of bytes in the segments delivered since INIT, in FAILED as well
  (R29, R63, R232). -/
  streamCount : s.stateReg ≠ .uninit → s.cfg.sink = .stream →
    s.deliveredAtInit ≤ s.delivered.length ∧ (s.delivered.drop s.deliveredAtInit).flatten.length = s.count.toNat
  /-- The session's own invariants (R41). -/
  session : s.live = true → LiveInv s
  /-- Only commands and the reset line are issued (R220). -/
  hostOnly : ∀ w ∈ s.host, hostPort w.port = true

/-- The operations a host can start (R220). -/
def isHostOp : Instr → Bool
  | .init _ _ _ _ _ => true
  | .addLine _ => true
  | .getOutputSize => true
  | .getError => true
  | .reset => true
  | _ => false

/-- The operations that set COUNT back: INIT and hardware reset (R280). -/
def isRestart : Instr → Bool
  | .init _ _ _ _ _ => true
  | .reset => true
  | _ => false

/-- The transitions of STATE by host operations (R231): every pair the rule lists, and no change in any other case. An
accepted ADD_LINE ends in FAILED exactly where it raises, which its result shows (R222, R258). -/
def stateMove (i : Instr) (s t : State) : Prop :=
  match i with
  | .reset => t.stateReg = .uninit
  | .init width height bitOrder sink _ =>
    t.stateReg = if initLegal s.params width height bitOrder sink then .initialized else .uninit
  | .addLine _ =>
    if s.stateReg = .initialized ∨ s.stateReg = .encoding then
      (t.stateReg = .failed ∧ t.rc ≠ .success ∧ t.err = t.rc)
        ∨ (t.rc = .success ∧ t.stateReg = if s.rows + 1 = s.cfg.height then .complete else .encoding)
    else t.stateReg = s.stateReg
  | _ => t.stateReg = s.stateReg

/-- A list of operations run one after another, stopping at the first stop. -/
def execAll : List Instr → State → Out
  | [], s => .next s
  | i :: is, s =>
    match exec i s with
    | .next t => execAll is t
    | .fault f => .fault f
    | .refused r => .refused r

/-- The bytes of OUT below an index, as the core has written them. -/
def outPrefix (m : Memory) (n : Nat) : List (Option Byte) := (List.range n).map (memRead m)

/-- What a raise leaves (R258, R259): FAILED, the kind in ERR and in the result, CFG and everything that is no register of
the block as it was; of the registers R259 calls unspecified nothing is said. -/
def failedFrom (e : ErrKind) (s t : State) : Prop :=
  t.stateReg = .failed ∧ t.err = e ∧ t.rc = e ∧ t.data = 0 ∧ t.cfg = s.cfg ∧ t.params = s.params ∧ t.line = s.line
    ∧ t.codes = s.codes ∧ t.host = s.host ∧ t.deliveredAtInit = s.deliveredAtInit

/-- What hardware reset leaves (R44, R227, R281), but for OUT and what the sink holds: UNINIT, NONE, 0, and everything that
is no register of the block as it was. -/
def resetFrom (s t : State) : Prop :=
  t.stateReg = .uninit ∧ t.err = .success ∧ t.count = 0 ∧ t.params = s.params ∧ t.line = s.line ∧ t.codes = s.codes
    ∧ t.host = s.host ∧ t.resetIn = none ∧ t.deliveredAtInit = s.deliveredAtInit

/-- The commands that encode an image (R282): INIT, then ADD_LINE for each scanline, top line first. -/
def imageCommands (width : BitVec 16) (height : BitVec 32) (bitOrder sink : BitVec 8) (cap : BitVec 32)
    (lines : List (List Byte)) : List Instr :=
  .init width height bitOrder sink cap :: lines.map Instr.addLine

end Sys2Proof.Machine
end

