-- ==== Sys2Proof/Certificates/Slice0/Obligations.lean ====
section
/-! DEFINITION. The statements for the provers. Each docstring names the rule of spec/ it formalises. -/

open Sys2Proof Sys2Proof.Machine

/-- R44, R227, R281: the hardware reset operation and its frame, and the three values R44 gives. -/
def Obligations.HardwareResetLeavesUninit : Prop :=
  (∀ s : State, ∃ t, exec .reset s = .next t ∧ resetFrom s t ∧ t.out = s.out ∧ t.delivered = s.delivered
      ∧ t.sinkReplies = s.sinkReplies ∧ t.rc = s.rc ∧ t.data = s.data)
    ∧ State.reset.stateReg = .uninit ∧ State.reset.err = .success ∧ State.reset.count = 0

/-- R12: a command is the unit of execution; R271: between commands the block keeps all state. The list of words is the model's
choice (logs 1, 2). The second clause is the model's choice too: only the word layout of log 3 makes words that stand for no
operation, while by R118 no illegal command exists. -/
def Obligations.StepRunsDecodedOperation : Prop :=
  (∀ (s : State) (w : PortWord) (ws : List PortWord) (i : Instr), s.host = w :: ws → decode w = .ok i →
      step s = exec i { s with host := ws })
    ∧ (∀ (s : State) (w : PortWord) (ws : List PortWord) (e : DecodeError), s.host = w :: ws → decode w = .bad e →
      step s = .refused (.malformedWord e))
    ∧ (∀ s : State, s.host = [] → step s = .next s)

/-- R225, with the value in UNINIT and the opcode. -/
def Obligations.GetOutputSizeReturnsCount : Prop :=
  (∀ s : State, exec .getOutputSize s = .next { s with rc := .success, data := s.count })
    ∧ (∀ s : State, SessionInv s → s.stateReg = .uninit →
      exec .getOutputSize s = .next { s with rc := .success, data := 0 })
    ∧ decode ⟨.command, [true, false]⟩ = .ok .getOutputSize

/-- R226, with the value outside FAILED and the opcode. -/
def Obligations.GetErrorReturnsErr : Prop :=
  (∀ s : State, exec .getError s = .next { s with rc := .success, data := (errCode s.err).setWidth 32 })
    ∧ (∀ s : State, SessionInv s → s.stateReg ≠ .failed →
      exec .getError s = .next { s with rc := .success, data := 0 })
    ∧ decode ⟨.command, [true, true]⟩ = .ok .getError

/-- R221 for legal operands; of TB[1], A0 and COLOR, which R44 leaves unspecified, nothing is said. The field deliveredAtInit is
the model's own (log 22). -/
def Obligations.InitStartsSession : Prop :=
  ∀ (width : BitVec 16) (height : BitVec 32) (bitOrder sink : BitVec 8) (cap : BitVec 32) (s : State),
    1 ≤ width.toNat → width.toNat ≤ s.params.maxTransitions → 1 ≤ height.toNat → bitOrder.toNat ≤ 1 → sink.toNat ≤ 1 →
    ∃ t, exec (.init width height bitOrder sink cap) s = .next t
      ∧ t.stateReg = .initialized ∧ t.err = .success ∧ t.count = 0
      ∧ t.cfg = { width := width, height := height
                  bitOrder := if bitOrder = 0 then .msbFirst else .lsbFirst
                  sink := if sink = 0 then .fixed else .stream, cap := cap }
      ∧ t.rows = 0 ∧ t.acc = 0 ∧ t.nb = 0 ∧ t.stg = [] ∧ t.refsel = false ∧ t.ref = [width.toNat] ∧ t.tl false = 1
      ∧ t.rc = .success ∧ t.data = 0 ∧ t.out = s.out ∧ t.delivered = s.delivered ∧ t.params = s.params
      ∧ t.line = s.line ∧ t.codes = s.codes ∧ t.host = s.host ∧ t.sinkReplies = s.sinkReplies ∧ t.resetIn = s.resetIn
      ∧ t.deliveredAtInit = s.delivered.length

/-- R111, with the effect of R252 on an illegal operand. -/
def Obligations.InitRefusesIllegalOperands : Prop :=
  ∀ (width : BitVec 16) (height : BitVec 32) (bitOrder sink : BitVec 8) (cap : BitVec 32) (s : State),
    ∃ t, exec (.init width height bitOrder sink cap) s = .next t
      ∧ (t.rc = .invalidParameter ↔
          (width.toNat = 0 ∨ s.params.maxTransitions < width.toNat ∨ height.toNat = 0 ∨ 1 < bitOrder.toNat
            ∨ 1 < sink.toNat))
      ∧ (t.rc = .invalidParameter → t.stateReg = .uninit ∧ t.err = .success ∧ t.count = 0 ∧ t.data = 0 ∧ t.out = s.out
            ∧ t.delivered = s.delivered ∧ t.params = s.params ∧ t.host = s.host)
      ∧ (t.rc ≠ .invalidParameter → t.rc = .success ∧ t.stateReg = .initialized
            ∧ (t.cfg.bitOrder = .msbFirst ↔ bitOrder.toNat = 0) ∧ (t.cfg.sink = .fixed ↔ sink.toNat = 0)
            ∧ t.cfg.cap = cap)

/-- R251. -/
def Obligations.AddLineNeedsSession : Prop :=
  (∀ (line : List Byte) (s : State), s.stateReg = .uninit →
      exec (.addLine line) s = .next { s with rc := .notInitialized, data := 0 })
    ∧ (∀ s t : State, exec .getOutputSize s = .next t → t.rc = .success)
    ∧ (∀ s t : State, exec .getError s = .next t → t.rc = .success)

/-- R254. -/
def Obligations.AddLineAfterLastRow : Prop :=
  ∀ (line : List Byte) (s : State), s.stateReg = .complete →
    exec (.addLine line) s = .next { s with rc := .imageComplete, data := 0 }

/-- R256. -/
def Obligations.AddLineInFailedReturnsStoredKind : Prop :=
  (∀ (line : List Byte) (s : State), s.stateReg = .failed →
      exec (.addLine line) s = .next { s with rc := s.err, data := 0 })
    ∧ (∀ (line : List Byte) (s t : State), SessionInv s → s.stateReg = .failed → exec (.addLine line) s = .next t →
      errCode t.rc = 3 ∨ errCode t.rc = 5)

/-- R222 for a line before the last one; lineDone is written from the rules that R222 names. -/
def Obligations.AddLineEncodesScanline : Prop :=
  ∀ (line : List Byte) (s : State), (s.stateReg = .initialized ∨ s.stateReg = .encoding) →
    s.W ≤ s.params.maxTransitions → ceil8 s.W ≤ line.length → seqWf s.W s.ref = true → s.accClean = true →
    s.room (s.bitsOf line) = true → s.rows + 1 ≠ s.cfg.height →
    exec (.addLine line) s = .next { s.lineDone line with rc := .success, data := 0 }

/-- R222 for the last line. -/
def Obligations.AddLineCompletesImage : Prop :=
  ∀ (line : List Byte) (s : State), (s.stateReg = .initialized ∨ s.stateReg = .encoding) →
    s.W ≤ s.params.maxTransitions → ceil8 s.W ≤ line.length → seqWf s.W s.ref = true → s.accClean = true →
    s.room (s.bitsOf line) = true → s.rows + 1 = s.cfg.height →
    (s.lineDone line).room (eofbBits s.params) = true →
    ((s.lineDone line).emitted (eofbBits s.params)).flushRoom = true →
    exec (.addLine line) s = .next { (s.lineDone line).imageDone with rc := .success, data := 0 }
      ∧ (s.lineDone line).imageDone.stateReg = .complete ∧ (s.lineDone line).imageDone.nb = 0

/-- R187, R203, R232, R233 (b) for one command, in its line, in EOFB and in the pad byte of the last row; R258, R259: the exception
is precise at the byte. That LINE holds the operand afterwards is the model's choice (log 11). -/
def Obligations.AddLineOverflowKeepsWholeBytes : Prop :=
  ∀ (line : List Byte) (s : State), (s.stateReg = .initialized ∨ s.stateReg = .encoding) →
    s.W ≤ s.params.maxTransitions → ceil8 s.W ≤ line.length → seqWf s.W s.ref = true → s.accClean = true →
    s.cfg.sink = .fixed → s.resetIn = none → s.count.toNat ≤ s.cfg.cap.toNat →
    s.cfg.cap.toNat < s.count.toNat + (s.commandBytes line).length →
    ∃ t, exec (.addLine line) s = .next t ∧ failedFrom .dataOverflow { s with line := line } t ∧ t.count = s.cfg.cap
      ∧ t.out = writeBytes s.out s.count.toNat ((s.commandBytes line).take (s.cfg.cap.toNat - s.count.toNat))
      ∧ t.delivered = s.delivered ∧ t.sinkReplies = s.sinkReplies

/-- R227: a command in progress is abandoned, and what it had already written to OUT or pushed to the sink stays. The moments at
which it can be abandoned, just before an output operation that resetIn counts, are the model's choice (log 20), and so is that
LINE holds the abandoned operand (logs 11, 20). -/
def Obligations.AddLineCutByResetLine : Prop :=
  (∀ (line : List Byte) (s : State) (n : Nat), (s.stateReg = .initialized ∨ s.stateReg = .encoding) →
      s.W ≤ s.params.maxTransitions → ceil8 s.W ≤ line.length → seqWf s.W s.ref = true → s.accClean = true →
      s.cfg.sink = .fixed → s.resetIn = some n → n < (s.commandBytes line).length →
      s.count.toNat + n < s.cfg.cap.toNat →
      ∃ t, exec (.addLine line) s = .next t ∧ resetFrom { s with line := line } t
        ∧ t.out = writeBytes s.out s.count.toNat ((s.commandBytes line).take n) ∧ t.delivered = s.delivered
        ∧ t.sinkReplies = s.sinkReplies)
    ∧ (∀ (line : List Byte) (s : State) (n : Nat) (rs : List SinkReply), (s.stateReg = .initialized ∨ s.stateReg = .encoding) →
      s.W ≤ s.params.maxTransitions → ceil8 s.W ≤ line.length → seqWf s.W s.ref = true → s.accClean = true →
      s.cfg.sink = .stream → s.stg.length < s.params.segSize → s.resetIn = some n →
      n < (s.commandSegments line).length → s.sinkReplies = List.replicate n .ok ++ rs →
      s.count.toNat + ((s.commandSegments line).take n).flatten.length < 4294967296 →
      ∃ t, exec (.addLine line) s = .next t ∧ resetFrom { s with line := line } t
        ∧ t.delivered = s.delivered ++ (s.commandSegments line).take n ∧ t.sinkReplies = rs ∧ t.out = s.out)

/-- 93_implementation_defined.md U9, refuse (log 11, the model's form of it). -/
def Obligations.AddLineRefusesShortLine : Prop :=
  ∀ (line : List Byte) (s : State), (s.stateReg = .initialized ∨ s.stateReg = .encoding) →
    s.W ≤ s.params.maxTransitions → line.length < ceil8 s.W → exec (.addLine line) s = .refused .lineTooShort

/-- R61: the unused bit positions of the last byte are ignored. -/
def Obligations.AddLineIgnoresPadBits : Prop :=
  ∀ (l1 l2 : List Byte) (s t : State), (s.stateReg = .initialized ∨ s.stateReg = .encoding) →
    ceil8 s.W ≤ l1.length → ceil8 s.W ≤ l2.length →
    (∀ x, x < s.W → pix s.cfg.bitOrder l1 x = pix s.cfg.bitOrder l2 x) →
    exec (.addLine l1) s = .next t → exec (.addLine l2) s = .next { t with line := l2 }

/-- R224. -/
def Obligations.SwapExchangesRoles : Prop :=
  ∀ s : State, exec .swap s = .next { s with refsel := !s.refsel }
    ∧ ∀ t, exec .swap s = .next t → t.ref = s.cur ∧ t.cur = s.ref

/-- R132, R136. The model's choices: EXTRACT by itself (log 4); the raise, which R135 and U13 let a model omit, is kept (log 17); a
short LINE is refused as lineTooShort (U9, log 11). -/
def Obligations.ExtractWritesCurrentBuffer : Prop :=
  (∀ s : State, s.W ≤ s.params.maxTransitions → ceil8 s.W ≤ s.line.length →
      ∃ t, exec .extract s = .next t ∧ t.cur = extractSeq (pix s.cfg.bitOrder s.line) s.W ∧ t.ref = s.ref
        ∧ t = { s with tb0 := t.tb0, tb1 := t.tb1 })
    ∧ (∀ s : State, s.params.maxTransitions < s.W →
      ∃ t, exec .extract s = .next t ∧ failedFrom .invalidParameter s t ∧ t.count = s.count ∧ t.out = s.out
        ∧ t.delivered = s.delivered)
    ∧ (∀ s : State, s.W ≤ s.params.maxTransitions → s.line.length < ceil8 s.W →
      exec .extract s = .refused .lineTooShort)

/-- R133 (a) to (f), and that seqWf, which other statements use, holds. -/
def Obligations.ExtractedSequenceIsWellFormed : Prop :=
  ∀ (pixel : Nat → Colour) (w : Nat),
    (extractSeq pixel w).length ≥ 1
    ∧ (extractSeq pixel w).Pairwise (· < ·)
    ∧ (extractSeq pixel w).getLast? = some w
    ∧ (extractSeq pixel w).count w = 1
    ∧ (∀ i x, (extractSeq pixel w)[i]? = some x → x < w → (pixel x = .black ↔ i % 2 = 0))
    ∧ (∀ x, x < w → (pixel x = .black ↔ (extractSeq pixel w).countP (fun e => decide (e ≤ x)) % 2 = 1))
    ∧ extractSeq (fun _ => .white) w = [w]
    ∧ seqWf w (extractSeq pixel w) = true

/-- R134. -/
def Obligations.TransitionCountIsBounded : Prop :=
  (∀ (pixel : Nat → Colour) (w : Nat), (extractSeq pixel w).length ≤ w + 1)
    ∧ (∀ (p : Params) (pixel : Nat → Colour) (w : Nat), w ≤ p.maxTransitions →
      (extractSeq pixel w).length ≤ Config.tbCap p)
    ∧ (∀ w, extractSeq (fun x => if x % 2 = 0 then .black else .white) w = List.range (w + 1))

/-- R131 and R290. -/
def Obligations.PixelFollowsBitOrder : Prop :=
  (∀ (bytes : List Byte) (x : Nat) (b : Byte), bytes[x / 8]? = some b →
      (pix .msbFirst bytes x = .black ↔ b.getLsbD (7 - x % 8) = true)
        ∧ (pix .lsbFirst bytes x = .black ↔ b.getLsbD (x % 8) = true))
    ∧ (∀ (line : List Byte) (w : Nat), lineSeq .lsbFirst w (line.map rev8) = lineSeq .msbFirst w line)

/-- R150 and R157; the field codes is the model's own (log 19).
The operation as a step of its own is the model's choice (log 4). -/
def Obligations.RunReturnsCodewords : Prop :=
  (∀ (n : Int) (c : Colour) (s : State), 0 ≤ n → exec (.run n c) s = .next { s with codes := runCodes n.toNat c })
    ∧ (∀ (n : Int) (c : Colour) (s : State), n < 0 →
      ∃ t, exec (.run n c) s = .next t ∧ failedFrom .invalidParameter s t ∧ t.count = s.count ∧ t.out = s.out
        ∧ t.delivered = s.delivered)

/-- The algorithm and the derived properties of R151. -/
def Obligations.RunDecompositionIsGreedy : Prop :=
  ∀ (n : Nat) (c : Colour),
    (2560 ≤ n → runCodes n c = .ext 40 :: runCodes (n - 2560) c)
    ∧ (1792 ≤ n → n < 2560 → runCodes n c = [.ext (n / 64), .term c (n % 64)])
    ∧ (64 ≤ n → n < 1792 → runCodes n c = [.makeup c (n / 64), .term c (n % 64)])
    ∧ (n < 64 → runCodes n c = [.term c n])
    ∧ ((runCodes n c).map RunCode.run).sum = n
    ∧ (runCodes n c).getLast? = some (.term c (n % 2560 % 64))
    ∧ (runCodes n c).countP (fun r => match r with | .term _ _ => true | _ => false) = 1
    ∧ (runCodes n c).length = n / 2560 + (if 64 ≤ n % 2560 then 1 else 0) + 1

/-- R90 and R105: the counts, the lengths, and the anchors the document prints. -/
def Obligations.CodeTablesAreComplete : Prop :=
  modeRows.length = 9 ∧ whiteTermRows.length = 64 ∧ blackTermRows.length = 64 ∧ whiteMakeupRows.length = 27
    ∧ blackMakeupRows.length = 27 ∧ extRows.length = 13
    ∧ (∀ r ∈ modeSet ++ whiteSet ++ blackSet, 1 ≤ r.bits.length ∧ r.bits.length ≤ Config.codeMax)
    ∧ (RunCode.term .white 0).bits = [false, false, true, true, false, true, false, true]
    ∧ (RunCode.makeup .black 1).bits = [false, false, false, false, false, false, true, true, true, true]
    ∧ (RunCode.term .black 0).bits = [false, false, false, false, true, true, false, true, true, true]

/-- R201.
The operation as a step of its own is the model's choice (log 4). -/
def Obligations.PushbitPlacesBit : Prop :=
  (∀ (b : Bool) (s : State), s.nb ≠ 7 →
      ∃ acc, exec (.pushbit b) s = .next { s with acc := acc, nb := s.nb + 1 }
        ∧ ∀ j < 8, acc.getLsbD j = (s.acc.getLsbD j || (b && decide (j = bitPos s.cfg.bitOrder s.nb.toNat))))
    ∧ (∀ (b : Bool) (s : State), s.nb = 7 →
      ∃ v, exec (.pushbit b) s = exec (.writeByte v) { s with acc := 0, nb := 0 }
        ∧ ∀ j < 8, v.getLsbD j = (s.acc.getLsbD j || (b && decide (j = bitPos s.cfg.bitOrder 7))))

/-- R203; the fault is the model's (log 13).
The operation as a step of its own is the model's choice (log 4). -/
def Obligations.WriteByteStoresInFixedBuffer : Prop :=
  (∀ (v : Byte) (s : State), s.cfg.sink = .fixed → s.resetIn = none → s.count.toNat < s.cfg.cap.toNat →
      ∃ t, exec (.writeByte v) s = .next t
        ∧ t = { s with out := memWrite s.out s.count.toNat v, count := s.count + 1 }
        ∧ memRead t.out s.count.toNat = some v
        ∧ ∀ a, a ≠ s.count.toNat → memRead t.out a = memRead s.out a)
    ∧ (∀ (v : Byte) (s : State), s.cfg.sink = .fixed → s.count = s.cfg.cap →
      ∃ t, exec (.writeByte v) s = .next t ∧ failedFrom .dataOverflow s t ∧ t.count = s.count ∧ t.out = s.out
        ∧ t.delivered = s.delivered)
    ∧ (∀ (v : Byte) (s : State), s.cfg.sink = .fixed → s.cfg.cap.toNat < s.count.toNat →
      exec (.writeByte v) s = .fault .outIndexBeyondCap)

/-- R204; the fault is the model's (log 14).
The operation as a step of its own is the model's choice (log 4). -/
def Obligations.WriteByteStagesForStream : Prop :=
  (∀ (v : Byte) (s : State), s.cfg.sink = .stream → s.stg.length + 1 < s.params.segSize →
      exec (.writeByte v) s = .next { s with stg := s.stg ++ [v] })
    ∧ (∀ (v : Byte) (s : State), s.cfg.sink = .stream → s.stg.length + 1 = s.params.segSize →
      exec (.writeByte v) s = exec .pushSegment { s with stg := s.stg ++ [v] })
    ∧ (∀ (v : Byte) (s : State), s.cfg.sink = .stream → s.params.segSize ≤ s.stg.length →
      exec (.writeByte v) s = .fault .stagingOverrun)

/-- R205, answered OK.
The operation as a step of its own is the model's choice (log 4). -/
def Obligations.PushSegmentDelivers : Prop :=
  ∀ (s : State) (rs : List SinkReply), s.cfg.sink = .stream → s.stg ≠ [] → s.resetIn = none →
    s.sinkReplies = .ok :: rs → s.count.toNat + s.stg.length < 4294967296 →
    exec .pushSegment s = .next { s with delivered := s.delivered ++ [s.stg]
                                         count := s.count + BitVec.ofNat 32 s.stg.length, stg := [], sinkReplies := rs }

/-- R205 and R255.
The operation as a step of its own is the model's choice (log 4). -/
def Obligations.PushSegmentFailureIsIoError : Prop :=
  ∀ (s : State) (rs : List SinkReply), s.cfg.sink = .stream → s.stg ≠ [] → s.resetIn = none →
    s.sinkReplies = .fail :: rs →
    ∃ t, exec .pushSegment s = .next t ∧ failedFrom .ioError s t ∧ t.count = s.count ∧ t.delivered = s.delivered
      ∧ t.out = s.out ∧ t.sinkReplies = rs

/-- 93_implementation_defined.md U6 (refuse), U11 (stuck), and the precondition of R205; the names are the model's (logs 9, 10, 15). -/
def Obligations.PushSegmentStops : Prop :=
  (∀ (s : State) (rs : List SinkReply), s.cfg.sink = .stream → s.stg ≠ [] → s.resetIn = none →
      s.sinkReplies = .silent :: rs → exec .pushSegment s = .fault .sinkSilent)
    ∧ (∀ (s : State) (rs : List SinkReply), s.cfg.sink = .stream → s.stg ≠ [] → s.resetIn = none →
      s.sinkReplies = .ok :: rs → 4294967296 ≤ s.count.toNat + s.stg.length →
      exec .pushSegment s = .refused .countBeyond32Bits)
    ∧ (∀ s : State, (s.cfg.sink = .fixed ∨ s.stg = []) → exec .pushSegment s = .refused .pushPrecondition)

/-- R200 and R201 against the packing of R65 and R66.
The operation as a step of its own is the model's choice (log 4). -/
def Obligations.EmitPacksCodeword : Prop :=
  ∀ (cw : Bits) (s : State), s.accClean = true → s.room cw = true →
    exec (.emit cw) s = .next (s.emitted cw) ∧ (s.emitted cw).accClean = true

/-- All 195 run-length codewords and EOL, with the bits of R152 to R156 and R107, emitted as R200 says. That a codeword can be run
by itself is the model's choice (log 4): in the spec it is emitted inside ADD_LINE only, and no lone EOL ever is (R118). -/
def Obligations.CodewordsEnterTheStream : Prop :=
  ∀ (i : Instr) (cw : Codeword) (s : State), i.codeword = some cw → (∀ m, cw ≠ .mode m) → s.accClean = true →
    s.room cw.bits = true → exec i s = .next (s.emitted cw.bits)

/-- R203: no partial byte is written.
The operation as a step of its own is the model's choice (log 4). -/
def Obligations.EmitOverflowIsByteExact : Prop :=
  ∀ (cw : Bits) (s : State), s.accClean = true → s.cfg.sink = .fixed → s.resetIn = none →
    s.count.toNat ≤ s.cfg.cap.toNat → s.cfg.cap.toNat < s.count.toNat + s.bytesDone cw →
    ∃ t, exec (.emit cw) s = .next t ∧ failedFrom .dataOverflow s t ∧ t.count = s.cfg.cap
      ∧ t.out = writeBytes s.out s.count.toNat ((s.newBytes cw).take (s.cfg.cap.toNat - s.count.toNat))
      ∧ t.delivered = s.delivered

/-- R206; that ACC is the padded byte is R30.
The operation as a step of its own is the model's choice (log 4). -/
def Obligations.FlushPartialEndsTheStream : Prop :=
  ∀ s : State, s.accClean = true → s.flushRoom = true →
    exec .flushPartial s = .next s.flushed ∧ s.flushed.nb = 0 ∧ (s.cfg.sink = .stream → s.flushed.stg = [])
      ∧ (s.nb ≠ 0 → s.acc = packByte s.cfg.bitOrder s.pending)

/-- R208; that the absent operation does nothing is the model's reading (log 21).
The operation as a step of its own is the model's choice (log 4). -/
def Obligations.EofbFollowsItsParameter : Prop :=
  (∀ s : State, s.params.eofb = true → s.accClean = true → s.room (eolRow.bits ++ eolRow.bits) = true →
      exec .eofb s = .next (s.emitted (eolRow.bits ++ eolRow.bits)))
    ∧ (∀ s : State, s.params.eofb = false → exec .eofb s = .next s)
    ∧ eolRow.bits = List.replicate 11 false ++ [true]

/-- R65 and R66, and rev8 of R6. -/
def Obligations.PackPlacesStreamBits : Prop :=
  ∀ bs : Bits,
    (∀ (order : BitOrder) (n : Nat) (b : Bool), bs[n]? = some b →
      ∃ v, (pack order bs)[n / 8]? = some v
        ∧ v.getLsbD (match order with | .msbFirst => 7 - n % 8 | .lsbFirst => n % 8) = b)
    ∧ (∀ order : BitOrder, (pack order bs).length = (bs.length + 7) / 8)
    ∧ pack .lsbFirst bs = (pack .msbFirst bs).map rev8
    ∧ (∀ (b : Byte) (i : Nat), i < 8 → (rev8 b).getLsbD i = b.getLsbD (7 - i))

/-- The tests of R171, in their order. -/
def Obligations.ModeIsChosenInOrder : Prop :=
  ∀ a1 b1 b2 : Nat,
    (selectMode a1 b1 b2 = .pass ↔ b2 < a1)
    ∧ (selectMode a1 b1 b2 = .v0 ↔ a1 ≤ b2 ∧ a1 = b1)
    ∧ (selectMode a1 b1 b2 = .vr1 ↔ a1 ≤ b2 ∧ a1 = b1 + 1)
    ∧ (selectMode a1 b1 b2 = .vr2 ↔ a1 ≤ b2 ∧ a1 = b1 + 2)
    ∧ (selectMode a1 b1 b2 = .vr3 ↔ a1 ≤ b2 ∧ a1 = b1 + 3)
    ∧ (selectMode a1 b1 b2 = .vl1 ↔ a1 ≤ b2 ∧ a1 + 1 = b1)
    ∧ (selectMode a1 b1 b2 = .vl2 ↔ a1 ≤ b2 ∧ a1 + 2 = b1)
    ∧ (selectMode a1 b1 b2 = .vl3 ↔ a1 ≤ b2 ∧ a1 + 3 = b1)
    ∧ (selectMode a1 b1 b2 = .horizontal ↔ a1 ≤ b2 ∧ (b1 + 3 < a1 ∨ a1 + 3 < b1))

/-- R176.
The operation as a step of its own is the model's choice (log 4). -/
def Obligations.PassStepMovesToB2 : Prop :=
  ∀ s : State, s.accClean = true → s.room [false, false, false, true] = true →
    exec .p s = .next { s.emitted [false, false, false, true] with a0 := (s.b2 : Int) }

/-- R177 to R183.
The operation as a step of its own is the model's choice (log 4). -/
def Obligations.VerticalStepMovesToA1 : Prop :=
  ∀ (i : Instr) (cw : Bits) (s : State),
    (i, cw) ∈ [(Instr.v0, [true]), (.vr1, [false, true, true]), (.vr2, [false, false, false, false, true, true]),
      (.vr3, [false, false, false, false, false, true, true]), (.vl1, [false, true, false]),
      (.vl2, [false, false, false, false, true, false]), (.vl3, [false, false, false, false, false, true, false])] →
    s.accClean = true → s.room cw = true →
    exec i s = .next { s.emitted cw with a0 := (s.a1 : Int), colour := if s.colour = .white then .black else .white }

/-- R184.
The operation as a step of its own is the model's choice (log 4). -/
def Obligations.HorizontalStepCodesTwoRuns : Prop :=
  ∀ (s : State) (n1 n2 : Nat) (cw : Bits), (n1 : Int) = (s.a1 : Int) - max s.a0 0 → s.a2 = s.a1 + n2 →
    cw = [false, false, true] ++ (runCodes n1 s.colour).flatMap RunCode.bits
      ++ (runCodes n2 (if s.colour = .white then .black else .white)).flatMap RunCode.bits →
    s.accClean = true → s.room cw = true →
    exec .h s = .next { s.emitted cw with a0 := (s.a2 : Int) }

/-- R174. -/
def Obligations.PositionsKeepTheirOrder : Prop :=
  ∀ (ref cur : List Nat) (w : Nat) (a0 : Int) (c : Colour), seqWf w ref = true → seqWf w cur = true →
    -1 ≤ a0 → a0 < (w : Int) →
    let a := aPair cur w a0
    let b := bPair ref w a0 c
    a0 < (a.1 : Int) ∧ a.1 ≤ a.2 ∧ a.2 ≤ w ∧ (a.1 < a.2 ∨ a.1 = w)
      ∧ a0 < (b.1 : Int) ∧ b.1 ≤ b.2 ∧ b.2 ≤ w ∧ (b.1 < b.2 ∨ b.1 = w)
      ∧ (0 : Int) ≤ (a.1 : Int) ∧ (0 : Int) ≤ (b.1 : Int)
      ∧ -(w : Int) ≤ (a.1 : Int) - (b.1 : Int) ∧ (a.1 : Int) - (b.1 : Int) ≤ (w : Int)

/-- R186: termination and bounds. -/
def Obligations.LineCodingTerminatesInBounds : Prop :=
  ∀ (ref cur : List Nat) (w : Nat), seqWf w ref = true → seqWf w cur = true →
    (∀ (a0 : Int) (c : Colour), -1 ≤ a0 → a0 < (w : Int) →
      a0 < (chooseStep ref cur w a0 c).2 ∧ (chooseStep ref cur w a0 c).2 ≤ (w : Int))
    ∧ (lineSteps ref cur w).length ≤ cur.length + ref.length
    ∧ 1 ≤ (lineBits ref cur w).length
    ∧ (w ≤ 2559 → (lineBits ref cur w).length ≤ 53 * cur.length + 4 * ref.length)
    ∧ (∀ extra : Nat, stepsFrom ref cur w (w + 1 + extra) (-1) .white = lineSteps ref cur w)

/-- R188 (a) and (b). -/
def Obligations.IdenticalLineIsAllVertical : Prop :=
  ∀ (t : List Nat) (w : Nat), seqWf w t = true →
    lineSteps t t w = List.replicate t.length (.vertical .v0) ∧ lineBits t t w = List.replicate t.length true
      ∧ lineBits [w] [w] w = [true]

/-- R185: the list of codewords of a line, decoded against the same reference, reproduces it; said without a decoder, as
injectivity, of the coding steps and of the bits that the codewords are in the stream (R108). -/
def Obligations.LineCodingLosesNothing : Prop :=
  ∀ (ref c1 c2 : List Nat) (w : Nat), seqWf w ref = true → seqWf w c1 = true → seqWf w c2 = true →
    (lineSteps ref c1 w = lineSteps ref c2 w → c1 = c2)
    ∧ ∀ r1 r2 : Bits, lineBits ref c1 w ++ r1 = lineBits ref c2 w ++ r2 → c1 = c2 ∧ r1 = r2

/-- R188: the bit-serial loop of the machine against the pure function. ENCODE_LINE as a step of its own is the model's choice
(log 4). -/
def Obligations.EncodeLineEmitsLineCodes : Prop :=
  ∀ s : State, seqWf s.W s.ref = true → seqWf s.W s.cur = true → s.accClean = true →
    s.room (lineBits s.ref s.cur s.W) = true →
    exec .encodeLine s = .next { s.emitted (lineBits s.ref s.cur s.W) with
      a0 := (s.W : Int), colour := lineColour s.ref s.cur s.W }

/-- R233 (a), FIXED sink. -/
def Obligations.ImageIsEncodedToG4 : Prop :=
  ∀ (s : State) (width : BitVec 16) (height : BitVec 32) (bitOrder : BitVec 8) (cap : BitVec 32)
    (lines : List (List Byte)),
    initLegal s.params width height bitOrder 0 = true → lines.length = height.toNat →
    (∀ l ∈ lines, l.length = ceil8 width.toNat) → s.resetIn = none →
    (g4 s.params (bitOrderOf bitOrder) width.toNat lines).length ≤ cap.toNat →
    (∀ k, k ≤ lines.length → ∃ t,
      execAll (imageCommands width height bitOrder 0 cap (lines.take k)) s = .next t ∧ t.rc = .success)
    ∧ ∃ t, execAll (imageCommands width height bitOrder 0 cap lines) s = .next t ∧ t.stateReg = .complete
      ∧ t.count.toNat = (g4 s.params (bitOrderOf bitOrder) width.toNat lines).length
      ∧ outPrefix t.out t.count.toNat = (g4 s.params (bitOrderOf bitOrder) width.toNat lines).map some

/-- R233 (a), STREAM sink. -/
def Obligations.ImageIsStreamedToG4 : Prop :=
  ∀ (s : State) (width : BitVec 16) (height : BitVec 32) (bitOrder : BitVec 8) (cap : BitVec 32)
    (lines : List (List Byte)) (n : Nat),
    initLegal s.params width height bitOrder 1 = true → 1 ≤ s.params.segSize → lines.length = height.toNat →
    (∀ l ∈ lines, l.length = ceil8 width.toNat) → s.resetIn = none →
    s.sinkReplies = List.replicate n .ok → (g4 s.params (bitOrderOf bitOrder) width.toNat lines).length ≤ n →
    (g4 s.params (bitOrderOf bitOrder) width.toNat lines).length < 4294967296 →
    ∃ t segs, execAll (imageCommands width height bitOrder 1 cap lines) s = .next t ∧ t.stateReg = .complete
      ∧ t.rc = .success
      ∧ t.count.toNat = (g4 s.params (bitOrderOf bitOrder) width.toNat lines).length
      ∧ t.delivered = s.delivered ++ segs
      ∧ segs.flatten = g4 s.params (bitOrderOf bitOrder) width.toNat lines
      ∧ (∀ seg ∈ segs, 1 ≤ seg.length ∧ seg.length ≤ s.params.segSize) ∧ t.out = s.out

/-- R233 (b): the state after the failing line, which later refused lines do not change. -/
def Obligations.SmallBufferHoldsPrefixOfG4 : Prop :=
  ∀ (s : State) (width : BitVec 16) (height : BitVec 32) (bitOrder : BitVec 8) (cap : BitVec 32)
    (lines : List (List Byte)),
    initLegal s.params width height bitOrder 0 = true → lines.length = height.toNat →
    (∀ l ∈ lines, l.length = ceil8 width.toNat) → s.resetIn = none →
    cap.toNat < (g4 s.params (bitOrderOf bitOrder) width.toNat lines).length →
    ∃ t, execAll (imageCommands width height bitOrder 0 cap lines) s = .next t ∧ t.stateReg = .failed
      ∧ t.err = .dataOverflow ∧ t.rc = .dataOverflow ∧ t.count = cap
      ∧ outPrefix t.out cap.toNat
          = ((g4 s.params (bitOrderOf bitOrder) width.toNat lines).take cap.toNat).map some

/-- R66 and R234 for whole images. -/
def Obligations.BitOrderReversesOutput : Prop :=
  ∀ (p : Params) (w : Nat) (lines : List (List Byte)),
    g4 p .lsbFirst w (lines.map (List.map rev8)) = (g4 p .msbFirst w lines).map rev8

/-- The round trip; the operand layout is the model's choice (log 3). -/
def Obligations.DecodeInvertsEncode : Prop :=
  ∀ i : Instr, i.wellFormed = true → decode (encode i) = .ok i

/-- R108: the prefix property, as a reader uses it. -/
def Obligations.ReaderFindsCodewordBoundaries : Prop :=
  ∀ set ∈ [modeSet, whiteSet, blackSet], ∀ r ∈ set, ∀ rest : Bits, readCode set (r.bits ++ rest) = some (r.instr, rest)

/-- Bits written out from the tables of 30_encoding.md; the order of operand bits is the model's choice (log 3). -/
def Obligations.WordsDecodeToTheirOperations : Prop :=
  decode ⟨.white, [false, false, true, true, false, true, false, true]⟩ = .ok .wt0
    ∧ decode ⟨.black, [false, false, false, false, true, true, false, true, true, true]⟩ = .ok .bt0
    ∧ decode ⟨.black, [false, false, false, false, false, false, true, true, true, true]⟩ = .ok .bm64
    ∧ decode ⟨.black, List.replicate 7 false ++ List.replicate 5 true⟩ = .ok .xm2560
    ∧ decode ⟨.mode, List.replicate 11 false ++ [true]⟩ = .ok .eol
    ∧ decode ⟨.mode, [false, false, false, false, false, true, false]⟩ = .ok .vl3
    ∧ decode ⟨.command, [true, false]⟩ = .ok .getOutputSize
    ∧ decode ⟨.command, [true, true]⟩ = .ok .getError
    ∧ decode ⟨.command, [false, false]
        ++ [false, false, false, false, false, false, false, false, false, true, false, false, false, false, false, false]
        ++ List.replicate 30 false ++ [true, false]
        ++ [false, false, false, false, false, false, false, false]
        ++ [false, false, false, false, false, false, false, false]
        ++ List.replicate 29 false ++ [true, false, false]⟩ = .ok (.init 64 2 0 0 4)
    ∧ decode ⟨.command, [false, true] ++ List.replicate 64 false⟩ = .ok (.addLine [0, 0, 0, 0, 0, 0, 0, 0])
    ∧ decode ⟨.command, [false, true] ++ List.replicate 64 true⟩
      = .ok (.addLine [255, 255, 255, 255, 255, 255, 255, 255])

/-- R41 at reset; CoreInv.fill there rests on the model's reset values of CFG only through 0 <= CAP. -/
def Obligations.SessionInvariantAtReset : Prop :=
  SessionInv State.reset

/-- R41: from every state that satisfies it, also with a sink that fails and with a reset asserted inside a command. The segments
of the session are those after the first deliveredAtInit, the number that INIT found (the model's own field, log 22). -/
def Obligations.SessionInvariantIsKept : Prop :=
  ∀ s t : State, SessionInv s → step s = .next t → SessionInv t

/-- R29 and the canonical form, whatever is run, micro-operations by themselves among it. -/
def Obligations.CoreInvariantIsKeptByAll : Prop :=
  ∀ (i : Instr) (s t : State), CoreInv s → exec i s = .next t → CoreInv t

/-- R29, R209: COUNT changes upward only. -/
def Obligations.CountNeverFalls : Prop :=
  ∀ (i : Instr) (s t : State), isRestart i = false → s.resetIn = none → exec i s = .next t →
    s.count.toNat ≤ t.count.toNat

/-- R62, R72: each index at most once per session, in rising order. -/
def Obligations.OutputBytesAreFinal : Prop :=
  (∀ (i : Instr) (s t : State) (a : Nat), isRestart i = false → s.resetIn = none → exec i s = .next t →
      a < s.count.toNat ∨ t.count.toNat ≤ a → memRead t.out a = memRead s.out a)
    ∧ (∀ (i : Instr) (s t : State), isRestart i = true → exec i s = .next t → t.out = s.out)

/-- R29, R63, R205, R227, R281; the parameters and the host's words are no register of the block. -/
def Obligations.DeliveredStreamOnlyGrows : Prop :=
  (∀ (i : Instr) (s t : State), exec i s = .next t →
      s.delivered <+: t.delivered ∧ t.params = s.params ∧ t.host = s.host
        ∧ (s.cfg.sink = .fixed → t.delivered = s.delivered))
    ∧ (∀ (i : Instr) (s t : State), isRestart i = false → s.resetIn = none → s.cfg.sink = .stream →
      exec i s = .next t → ∃ segs, t.delivered = s.delivered ++ segs
        ∧ t.count.toNat = s.count.toNat + segs.flatten.length ∧ ∀ seg ∈ segs, seg ≠ [])

/-- R231, with R253 and R255 for the kinds of a raise; that FAILED and COMPLETE are left only by INIT and hardware reset is R263.
The moment of a reset inside an operation is the model's choice (log 20). -/
def Obligations.HostOperationsMoveStateAsListed : Prop :=
  (∀ (i : Instr) (s t : State), isHostOp i = true → exec i s = .next t →
      stateMove i s t ∨ (s.resetIn ≠ none ∧ t.stateReg = .uninit ∧ t.err = .success ∧ t.count = 0))
    ∧ (∀ (line : List Byte) (s t : State), SessionInv s → (s.stateReg = .initialized ∨ s.stateReg = .encoding) →
      s.resetIn = none → exec (.addLine line) s = .next t →
      (t.stateReg = .failed ↔ t.rc = .dataOverflow ∨ t.rc = .ioError)
        ∧ (t.stateReg ≠ .failed →
          t.rc = .success ∧ t.stateReg = if s.rows + 1 = s.cfg.height then .complete else .encoding)
        ∧ (t.rc = .dataOverflow → s.cfg.sink = .fixed) ∧ (t.rc = .ioError → s.cfg.sink = .stream))

/-- R187, R205, R232, R255 for one command, in its line, in EOFB and in FLUSH_PARTIAL; R258, R259. That LINE holds the operand
afterwards is the model's choice (log 11). -/
def Obligations.AddLineSinkFailureKeepsSegments : Prop :=
  ∀ (line : List Byte) (s : State) (k : Nat) (rs : List SinkReply), (s.stateReg = .initialized ∨ s.stateReg = .encoding) →
    s.W ≤ s.params.maxTransitions → ceil8 s.W ≤ line.length → seqWf s.W s.ref = true → s.accClean = true →
    s.cfg.sink = .stream → s.stg.length < s.params.segSize → s.resetIn = none →
    k < (s.commandSegments line).length → s.sinkReplies = List.replicate k .ok ++ .fail :: rs →
    s.count.toNat + ((s.commandSegments line).take k).flatten.length < 4294967296 →
    ∃ t, exec (.addLine line) s = .next t ∧ failedFrom .ioError { s with line := line } t
      ∧ t.delivered = s.delivered ++ (s.commandSegments line).take k
      ∧ t.count.toNat = s.count.toNat + ((s.commandSegments line).take k).flatten.length
      ∧ t.sinkReplies = rs ∧ t.out = s.out
end

