-- ==== Sys2Proof/Laws/State.lean ====
section
/-! SUPPORT. One lemma per field per named update of State, so that no proof unfolds a record update. -/

namespace Sys2Proof.Machine

/-! The result register pair (R112). -/

@[simp] theorem answer_params (s : State) (rc : ErrKind) (d : BitVec 32) : (s.answer rc d).params = s.params := rfl
@[simp] theorem answer_cfg (s : State) (rc : ErrKind) (d : BitVec 32) : (s.answer rc d).cfg = s.cfg := rfl
@[simp] theorem answer_stateReg (s : State) (rc : ErrKind) (d : BitVec 32) :
    (s.answer rc d).stateReg = s.stateReg := rfl
@[simp] theorem answer_rows (s : State) (rc : ErrKind) (d : BitVec 32) : (s.answer rc d).rows = s.rows := rfl
@[simp] theorem answer_err (s : State) (rc : ErrKind) (d : BitVec 32) : (s.answer rc d).err = s.err := rfl
@[simp] theorem answer_count (s : State) (rc : ErrKind) (d : BitVec 32) : (s.answer rc d).count = s.count := rfl
@[simp] theorem answer_acc (s : State) (rc : ErrKind) (d : BitVec 32) : (s.answer rc d).acc = s.acc := rfl
@[simp] theorem answer_nb (s : State) (rc : ErrKind) (d : BitVec 32) : (s.answer rc d).nb = s.nb := rfl
@[simp] theorem answer_stg (s : State) (rc : ErrKind) (d : BitVec 32) : (s.answer rc d).stg = s.stg := rfl
@[simp] theorem answer_tb0 (s : State) (rc : ErrKind) (d : BitVec 32) : (s.answer rc d).tb0 = s.tb0 := rfl
@[simp] theorem answer_tb1 (s : State) (rc : ErrKind) (d : BitVec 32) : (s.answer rc d).tb1 = s.tb1 := rfl
@[simp] theorem answer_refsel (s : State) (rc : ErrKind) (d : BitVec 32) : (s.answer rc d).refsel = s.refsel := rfl
@[simp] theorem answer_a0 (s : State) (rc : ErrKind) (d : BitVec 32) : (s.answer rc d).a0 = s.a0 := rfl
@[simp] theorem answer_colour (s : State) (rc : ErrKind) (d : BitVec 32) : (s.answer rc d).colour = s.colour := rfl
@[simp] theorem answer_line (s : State) (rc : ErrKind) (d : BitVec 32) : (s.answer rc d).line = s.line := rfl
@[simp] theorem answer_out (s : State) (rc : ErrKind) (d : BitVec 32) : (s.answer rc d).out = s.out := rfl
@[simp] theorem answer_delivered (s : State) (rc : ErrKind) (d : BitVec 32) :
    (s.answer rc d).delivered = s.delivered := rfl
@[simp] theorem answer_deliveredAtInit (s : State) (rc : ErrKind) (d : BitVec 32) :
    (s.answer rc d).deliveredAtInit = s.deliveredAtInit := rfl
@[simp] theorem answer_rc (s : State) (rc : ErrKind) (d : BitVec 32) : (s.answer rc d).rc = rc := rfl
@[simp] theorem answer_data (s : State) (rc : ErrKind) (d : BitVec 32) : (s.answer rc d).data = d := rfl
@[simp] theorem answer_codes (s : State) (rc : ErrKind) (d : BitVec 32) : (s.answer rc d).codes = s.codes := rfl
@[simp] theorem answer_host (s : State) (rc : ErrKind) (d : BitVec 32) : (s.answer rc d).host = s.host := rfl
@[simp] theorem answer_sinkReplies (s : State) (rc : ErrKind) (d : BitVec 32) :
    (s.answer rc d).sinkReplies = s.sinkReplies := rfl
@[simp] theorem answer_resetIn (s : State) (rc : ErrKind) (d : BitVec 32) : (s.answer rc d).resetIn = s.resetIn := rfl
@[simp] theorem answer_freeCount (s : State) (rc : ErrKind) (d : BitVec 32) :
    (s.answer rc d).freeCount = s.freeCount := rfl

/-! SWAP (R224). -/

@[simp] theorem swapBuffers_params (s : State) : (swapBuffers s).params = s.params := rfl
@[simp] theorem swapBuffers_cfg (s : State) : (swapBuffers s).cfg = s.cfg := rfl
@[simp] theorem swapBuffers_stateReg (s : State) : (swapBuffers s).stateReg = s.stateReg := rfl
@[simp] theorem swapBuffers_rows (s : State) : (swapBuffers s).rows = s.rows := rfl
@[simp] theorem swapBuffers_err (s : State) : (swapBuffers s).err = s.err := rfl
@[simp] theorem swapBuffers_count (s : State) : (swapBuffers s).count = s.count := rfl
@[simp] theorem swapBuffers_acc (s : State) : (swapBuffers s).acc = s.acc := rfl
@[simp] theorem swapBuffers_nb (s : State) : (swapBuffers s).nb = s.nb := rfl
@[simp] theorem swapBuffers_stg (s : State) : (swapBuffers s).stg = s.stg := rfl
@[simp] theorem swapBuffers_tb0 (s : State) : (swapBuffers s).tb0 = s.tb0 := rfl
@[simp] theorem swapBuffers_tb1 (s : State) : (swapBuffers s).tb1 = s.tb1 := rfl
@[simp] theorem swapBuffers_refsel (s : State) : (swapBuffers s).refsel = !s.refsel := rfl
@[simp] theorem swapBuffers_a0 (s : State) : (swapBuffers s).a0 = s.a0 := rfl
@[simp] theorem swapBuffers_colour (s : State) : (swapBuffers s).colour = s.colour := rfl
@[simp] theorem swapBuffers_line (s : State) : (swapBuffers s).line = s.line := rfl
@[simp] theorem swapBuffers_out (s : State) : (swapBuffers s).out = s.out := rfl
@[simp] theorem swapBuffers_delivered (s : State) : (swapBuffers s).delivered = s.delivered := rfl
@[simp] theorem swapBuffers_deliveredAtInit (s : State) : (swapBuffers s).deliveredAtInit = s.deliveredAtInit := rfl
@[simp] theorem swapBuffers_rc (s : State) : (swapBuffers s).rc = s.rc := rfl
@[simp] theorem swapBuffers_data (s : State) : (swapBuffers s).data = s.data := rfl
@[simp] theorem swapBuffers_codes (s : State) : (swapBuffers s).codes = s.codes := rfl
@[simp] theorem swapBuffers_host (s : State) : (swapBuffers s).host = s.host := rfl
@[simp] theorem swapBuffers_sinkReplies (s : State) : (swapBuffers s).sinkReplies = s.sinkReplies := rfl
@[simp] theorem swapBuffers_resetIn (s : State) : (swapBuffers s).resetIn = s.resetIn := rfl
@[simp] theorem swapBuffers_freeCount (s : State) : (swapBuffers s).freeCount = s.freeCount := rfl

/-! A word placed for the next step. -/

@[simp] theorem placeWord_params (s : State) (w : PortWord) : (s.placeWord w).params = s.params := rfl
@[simp] theorem placeWord_cfg (s : State) (w : PortWord) : (s.placeWord w).cfg = s.cfg := rfl
@[simp] theorem placeWord_stateReg (s : State) (w : PortWord) : (s.placeWord w).stateReg = s.stateReg := rfl
@[simp] theorem placeWord_rows (s : State) (w : PortWord) : (s.placeWord w).rows = s.rows := rfl
@[simp] theorem placeWord_err (s : State) (w : PortWord) : (s.placeWord w).err = s.err := rfl
@[simp] theorem placeWord_count (s : State) (w : PortWord) : (s.placeWord w).count = s.count := rfl
@[simp] theorem placeWord_acc (s : State) (w : PortWord) : (s.placeWord w).acc = s.acc := rfl
@[simp] theorem placeWord_nb (s : State) (w : PortWord) : (s.placeWord w).nb = s.nb := rfl
@[simp] theorem placeWord_stg (s : State) (w : PortWord) : (s.placeWord w).stg = s.stg := rfl
@[simp] theorem placeWord_tb0 (s : State) (w : PortWord) : (s.placeWord w).tb0 = s.tb0 := rfl
@[simp] theorem placeWord_tb1 (s : State) (w : PortWord) : (s.placeWord w).tb1 = s.tb1 := rfl
@[simp] theorem placeWord_refsel (s : State) (w : PortWord) : (s.placeWord w).refsel = s.refsel := rfl
@[simp] theorem placeWord_a0 (s : State) (w : PortWord) : (s.placeWord w).a0 = s.a0 := rfl
@[simp] theorem placeWord_colour (s : State) (w : PortWord) : (s.placeWord w).colour = s.colour := rfl
@[simp] theorem placeWord_line (s : State) (w : PortWord) : (s.placeWord w).line = s.line := rfl
@[simp] theorem placeWord_out (s : State) (w : PortWord) : (s.placeWord w).out = s.out := rfl
@[simp] theorem placeWord_delivered (s : State) (w : PortWord) : (s.placeWord w).delivered = s.delivered := rfl
@[simp] theorem placeWord_deliveredAtInit (s : State) (w : PortWord) :
    (s.placeWord w).deliveredAtInit = s.deliveredAtInit := rfl
@[simp] theorem placeWord_rc (s : State) (w : PortWord) : (s.placeWord w).rc = s.rc := rfl
@[simp] theorem placeWord_data (s : State) (w : PortWord) : (s.placeWord w).data = s.data := rfl
@[simp] theorem placeWord_codes (s : State) (w : PortWord) : (s.placeWord w).codes = s.codes := rfl
@[simp] theorem placeWord_host (s : State) (w : PortWord) : (s.placeWord w).host = w :: s.host.tail := rfl
@[simp] theorem placeWord_sinkReplies (s : State) (w : PortWord) : (s.placeWord w).sinkReplies = s.sinkReplies := rfl
@[simp] theorem placeWord_resetIn (s : State) (w : PortWord) : (s.placeWord w).resetIn = s.resetIn := rfl
@[simp] theorem placeWord_freeCount (s : State) (w : PortWord) : (s.placeWord w).freeCount = s.freeCount := rfl

/-! The registers R259 and R44 leave unspecified. -/

@[simp] theorem havocWork_params (s : State) : (havocWork s).params = s.params := rfl
@[simp] theorem havocWork_cfg (s : State) : (havocWork s).cfg = s.cfg := rfl
@[simp] theorem havocWork_stateReg (s : State) : (havocWork s).stateReg = s.stateReg := rfl
@[simp] theorem havocWork_rows (s : State) : (havocWork s).rows = Config.freeRows s.freeCount := rfl
@[simp] theorem havocWork_err (s : State) : (havocWork s).err = s.err := rfl
@[simp] theorem havocWork_count (s : State) : (havocWork s).count = s.count := rfl
@[simp] theorem havocWork_acc (s : State) : (havocWork s).acc = Config.freeAcc s.freeCount := rfl
@[simp] theorem havocWork_nb (s : State) : (havocWork s).nb = Config.freeNb s.freeCount := rfl
@[simp] theorem havocWork_stg (s : State) : (havocWork s).stg = Config.freeStg s.freeCount := rfl
@[simp] theorem havocWork_tb0 (s : State) : (havocWork s).tb0 = Config.freeTb0 s.freeCount := rfl
@[simp] theorem havocWork_tb1 (s : State) : (havocWork s).tb1 = Config.freeTb1 s.freeCount := rfl
@[simp] theorem havocWork_refsel (s : State) : (havocWork s).refsel = Config.freeRefsel s.freeCount := rfl
@[simp] theorem havocWork_a0 (s : State) : (havocWork s).a0 = Config.freeA0 s.freeCount := rfl
@[simp] theorem havocWork_colour (s : State) : (havocWork s).colour = Config.freeColour s.freeCount := rfl
@[simp] theorem havocWork_line (s : State) : (havocWork s).line = s.line := rfl
@[simp] theorem havocWork_out (s : State) : (havocWork s).out = s.out := rfl
@[simp] theorem havocWork_delivered (s : State) : (havocWork s).delivered = s.delivered := rfl
@[simp] theorem havocWork_deliveredAtInit (s : State) : (havocWork s).deliveredAtInit = s.deliveredAtInit := rfl
@[simp] theorem havocWork_rc (s : State) : (havocWork s).rc = s.rc := rfl
@[simp] theorem havocWork_data (s : State) : (havocWork s).data = s.data := rfl
@[simp] theorem havocWork_codes (s : State) : (havocWork s).codes = s.codes := rfl
@[simp] theorem havocWork_host (s : State) : (havocWork s).host = s.host := rfl
@[simp] theorem havocWork_sinkReplies (s : State) : (havocWork s).sinkReplies = s.sinkReplies := rfl
@[simp] theorem havocWork_resetIn (s : State) : (havocWork s).resetIn = s.resetIn := rfl
@[simp] theorem havocWork_freeCount (s : State) : (havocWork s).freeCount = s.freeCount + 1 := rfl

/-! A refused INIT and hardware reset (R44). -/

@[simp] theorem unspecifyAll_params (s : State) : (unspecifyAll s).params = s.params := rfl
@[simp] theorem unspecifyAll_cfg (s : State) : (unspecifyAll s).cfg = freeCfg s.freeCount := rfl
@[simp] theorem unspecifyAll_stateReg (s : State) : (unspecifyAll s).stateReg = .uninit := rfl
@[simp] theorem unspecifyAll_rows (s : State) : (unspecifyAll s).rows = Config.freeRows s.freeCount := rfl
@[simp] theorem unspecifyAll_err (s : State) : (unspecifyAll s).err = .success := rfl
@[simp] theorem unspecifyAll_count (s : State) : (unspecifyAll s).count = 0 := rfl
@[simp] theorem unspecifyAll_acc (s : State) : (unspecifyAll s).acc = Config.freeAcc s.freeCount := rfl
@[simp] theorem unspecifyAll_nb (s : State) : (unspecifyAll s).nb = Config.freeNb s.freeCount := rfl
@[simp] theorem unspecifyAll_stg (s : State) : (unspecifyAll s).stg = Config.freeStg s.freeCount := rfl
@[simp] theorem unspecifyAll_tb0 (s : State) : (unspecifyAll s).tb0 = Config.freeTb0 s.freeCount := rfl
@[simp] theorem unspecifyAll_tb1 (s : State) : (unspecifyAll s).tb1 = Config.freeTb1 s.freeCount := rfl
@[simp] theorem unspecifyAll_refsel (s : State) : (unspecifyAll s).refsel = Config.freeRefsel s.freeCount := rfl
@[simp] theorem unspecifyAll_a0 (s : State) : (unspecifyAll s).a0 = Config.freeA0 s.freeCount := rfl
@[simp] theorem unspecifyAll_colour (s : State) : (unspecifyAll s).colour = Config.freeColour s.freeCount := rfl
@[simp] theorem unspecifyAll_line (s : State) : (unspecifyAll s).line = s.line := rfl
@[simp] theorem unspecifyAll_out (s : State) : (unspecifyAll s).out = s.out := rfl
@[simp] theorem unspecifyAll_delivered (s : State) : (unspecifyAll s).delivered = s.delivered := rfl
@[simp] theorem unspecifyAll_deliveredAtInit (s : State) : (unspecifyAll s).deliveredAtInit = s.deliveredAtInit := rfl
@[simp] theorem unspecifyAll_rc (s : State) : (unspecifyAll s).rc = s.rc := rfl
@[simp] theorem unspecifyAll_data (s : State) : (unspecifyAll s).data = s.data := rfl
@[simp] theorem unspecifyAll_codes (s : State) : (unspecifyAll s).codes = s.codes := rfl
@[simp] theorem unspecifyAll_host (s : State) : (unspecifyAll s).host = s.host := rfl
@[simp] theorem unspecifyAll_sinkReplies (s : State) : (unspecifyAll s).sinkReplies = s.sinkReplies := rfl
@[simp] theorem unspecifyAll_resetIn (s : State) : (unspecifyAll s).resetIn = s.resetIn := rfl
@[simp] theorem unspecifyAll_freeCount (s : State) : (unspecifyAll s).freeCount = s.freeCount + 1 := rfl

/-! Hardware reset (R227). -/

@[simp] theorem hardReset_params (s : State) : (hardReset s).params = s.params := rfl
@[simp] theorem hardReset_cfg (s : State) : (hardReset s).cfg = freeCfg s.freeCount := rfl
@[simp] theorem hardReset_stateReg (s : State) : (hardReset s).stateReg = .uninit := rfl
@[simp] theorem hardReset_rows (s : State) : (hardReset s).rows = Config.freeRows s.freeCount := rfl
@[simp] theorem hardReset_err (s : State) : (hardReset s).err = .success := rfl
@[simp] theorem hardReset_count (s : State) : (hardReset s).count = 0 := rfl
@[simp] theorem hardReset_acc (s : State) : (hardReset s).acc = Config.freeAcc s.freeCount := rfl
@[simp] theorem hardReset_nb (s : State) : (hardReset s).nb = Config.freeNb s.freeCount := rfl
@[simp] theorem hardReset_stg (s : State) : (hardReset s).stg = Config.freeStg s.freeCount := rfl
@[simp] theorem hardReset_tb0 (s : State) : (hardReset s).tb0 = Config.freeTb0 s.freeCount := rfl
@[simp] theorem hardReset_tb1 (s : State) : (hardReset s).tb1 = Config.freeTb1 s.freeCount := rfl
@[simp] theorem hardReset_refsel (s : State) : (hardReset s).refsel = Config.freeRefsel s.freeCount := rfl
@[simp] theorem hardReset_a0 (s : State) : (hardReset s).a0 = Config.freeA0 s.freeCount := rfl
@[simp] theorem hardReset_colour (s : State) : (hardReset s).colour = Config.freeColour s.freeCount := rfl
@[simp] theorem hardReset_line (s : State) : (hardReset s).line = s.line := rfl
@[simp] theorem hardReset_out (s : State) : (hardReset s).out = s.out := rfl
@[simp] theorem hardReset_delivered (s : State) : (hardReset s).delivered = s.delivered := rfl
@[simp] theorem hardReset_deliveredAtInit (s : State) : (hardReset s).deliveredAtInit = s.deliveredAtInit := rfl
@[simp] theorem hardReset_rc (s : State) : (hardReset s).rc = s.rc := rfl
@[simp] theorem hardReset_data (s : State) : (hardReset s).data = s.data := rfl
@[simp] theorem hardReset_codes (s : State) : (hardReset s).codes = s.codes := rfl
@[simp] theorem hardReset_host (s : State) : (hardReset s).host = s.host := rfl
@[simp] theorem hardReset_sinkReplies (s : State) : (hardReset s).sinkReplies = s.sinkReplies := rfl
@[simp] theorem hardReset_resetIn (s : State) : (hardReset s).resetIn = none := rfl
@[simp] theorem hardReset_freeCount (s : State) : (hardReset s).freeCount = s.freeCount + 1 := rfl

/-! A raise (R258, R259). -/

@[simp] theorem takeError_params (s : State) (e : ErrKind) : (takeError e s).params = s.params := rfl
@[simp] theorem takeError_cfg (s : State) (e : ErrKind) : (takeError e s).cfg = s.cfg := rfl
@[simp] theorem takeError_stateReg (s : State) (e : ErrKind) : (takeError e s).stateReg = .failed := rfl
@[simp] theorem takeError_rows (s : State) (e : ErrKind) : (takeError e s).rows = Config.freeRows s.freeCount := rfl
@[simp] theorem takeError_err (s : State) (e : ErrKind) : (takeError e s).err = e := rfl
@[simp] theorem takeError_count (s : State) (e : ErrKind) : (takeError e s).count = s.count := rfl
@[simp] theorem takeError_acc (s : State) (e : ErrKind) : (takeError e s).acc = Config.freeAcc s.freeCount := rfl
@[simp] theorem takeError_nb (s : State) (e : ErrKind) : (takeError e s).nb = Config.freeNb s.freeCount := rfl
@[simp] theorem takeError_stg (s : State) (e : ErrKind) : (takeError e s).stg = Config.freeStg s.freeCount := rfl
@[simp] theorem takeError_tb0 (s : State) (e : ErrKind) : (takeError e s).tb0 = Config.freeTb0 s.freeCount := rfl
@[simp] theorem takeError_tb1 (s : State) (e : ErrKind) : (takeError e s).tb1 = Config.freeTb1 s.freeCount := rfl
@[simp] theorem takeError_refsel (s : State) (e : ErrKind) :
    (takeError e s).refsel = Config.freeRefsel s.freeCount := rfl
@[simp] theorem takeError_a0 (s : State) (e : ErrKind) : (takeError e s).a0 = Config.freeA0 s.freeCount := rfl
@[simp] theorem takeError_colour (s : State) (e : ErrKind) :
    (takeError e s).colour = Config.freeColour s.freeCount := rfl
@[simp] theorem takeError_line (s : State) (e : ErrKind) : (takeError e s).line = s.line := rfl
@[simp] theorem takeError_out (s : State) (e : ErrKind) : (takeError e s).out = s.out := rfl
@[simp] theorem takeError_delivered (s : State) (e : ErrKind) : (takeError e s).delivered = s.delivered := rfl
@[simp] theorem takeError_deliveredAtInit (s : State) (e : ErrKind) :
    (takeError e s).deliveredAtInit = s.deliveredAtInit := rfl
@[simp] theorem takeError_rc (s : State) (e : ErrKind) : (takeError e s).rc = e := rfl
@[simp] theorem takeError_data (s : State) (e : ErrKind) : (takeError e s).data = 0 := rfl
@[simp] theorem takeError_codes (s : State) (e : ErrKind) : (takeError e s).codes = s.codes := rfl
@[simp] theorem takeError_host (s : State) (e : ErrKind) : (takeError e s).host = s.host := rfl
@[simp] theorem takeError_sinkReplies (s : State) (e : ErrKind) : (takeError e s).sinkReplies = s.sinkReplies := rfl
@[simp] theorem takeError_resetIn (s : State) (e : ErrKind) : (takeError e s).resetIn = s.resetIn := rfl
@[simp] theorem takeError_freeCount (s : State) (e : ErrKind) : (takeError e s).freeCount = s.freeCount + 1 := rfl

/-! A legal INIT (R221). -/

@[simp] theorem startSession_params (s : State) (c : CfgRegs) : (startSession c s).params = s.params := rfl
@[simp] theorem startSession_cfg (s : State) (c : CfgRegs) : (startSession c s).cfg = c := rfl
@[simp] theorem startSession_stateReg (s : State) (c : CfgRegs) : (startSession c s).stateReg = .initialized := rfl
@[simp] theorem startSession_rows (s : State) (c : CfgRegs) : (startSession c s).rows = 0 := rfl
@[simp] theorem startSession_err (s : State) (c : CfgRegs) : (startSession c s).err = .success := rfl
@[simp] theorem startSession_count (s : State) (c : CfgRegs) : (startSession c s).count = 0 := rfl
@[simp] theorem startSession_acc (s : State) (c : CfgRegs) : (startSession c s).acc = 0 := rfl
@[simp] theorem startSession_nb (s : State) (c : CfgRegs) : (startSession c s).nb = 0 := rfl
@[simp] theorem startSession_stg (s : State) (c : CfgRegs) : (startSession c s).stg = [] := rfl
@[simp] theorem startSession_tb0 (s : State) (c : CfgRegs) : (startSession c s).tb0 = [c.width.toNat] := rfl
@[simp] theorem startSession_tb1 (s : State) (c : CfgRegs) :
    (startSession c s).tb1 = Config.freeTb1 s.freeCount := rfl
@[simp] theorem startSession_refsel (s : State) (c : CfgRegs) : (startSession c s).refsel = false := rfl
@[simp] theorem startSession_a0 (s : State) (c : CfgRegs) : (startSession c s).a0 = Config.freeA0 s.freeCount := rfl
@[simp] theorem startSession_colour (s : State) (c : CfgRegs) :
    (startSession c s).colour = Config.freeColour s.freeCount := rfl
@[simp] theorem startSession_line (s : State) (c : CfgRegs) : (startSession c s).line = s.line := rfl
@[simp] theorem startSession_out (s : State) (c : CfgRegs) : (startSession c s).out = s.out := rfl
@[simp] theorem startSession_delivered (s : State) (c : CfgRegs) : (startSession c s).delivered = s.delivered := rfl
@[simp] theorem startSession_deliveredAtInit (s : State) (c : CfgRegs) :
    (startSession c s).deliveredAtInit = s.delivered.length := rfl
@[simp] theorem startSession_rc (s : State) (c : CfgRegs) : (startSession c s).rc = s.rc := rfl
@[simp] theorem startSession_data (s : State) (c : CfgRegs) : (startSession c s).data = s.data := rfl
@[simp] theorem startSession_codes (s : State) (c : CfgRegs) : (startSession c s).codes = s.codes := rfl
@[simp] theorem startSession_host (s : State) (c : CfgRegs) : (startSession c s).host = s.host := rfl
@[simp] theorem startSession_sinkReplies (s : State) (c : CfgRegs) :
    (startSession c s).sinkReplies = s.sinkReplies := rfl
@[simp] theorem startSession_resetIn (s : State) (c : CfgRegs) : (startSession c s).resetIn = s.resetIn := rfl
@[simp] theorem startSession_freeCount (s : State) (c : CfgRegs) :
    (startSession c s).freeCount = s.freeCount + 1 := rfl

/-! ACC and NB after an emission (R201). -/

@[simp] theorem packed_params (s : State) (bs : Bits) : (s.packed bs).params = s.params := rfl
@[simp] theorem packed_cfg (s : State) (bs : Bits) : (s.packed bs).cfg = s.cfg := rfl
@[simp] theorem packed_stateReg (s : State) (bs : Bits) : (s.packed bs).stateReg = s.stateReg := rfl
@[simp] theorem packed_rows (s : State) (bs : Bits) : (s.packed bs).rows = s.rows := rfl
@[simp] theorem packed_err (s : State) (bs : Bits) : (s.packed bs).err = s.err := rfl
@[simp] theorem packed_count (s : State) (bs : Bits) : (s.packed bs).count = s.count := rfl
@[simp] theorem packed_acc (s : State) (bs : Bits) :
    (s.packed bs).acc = packByte s.cfg.bitOrder (s.leftover bs) := rfl
@[simp] theorem packed_nb (s : State) (bs : Bits) : (s.packed bs).nb = BitVec.ofNat 3 (s.leftover bs).length := rfl
@[simp] theorem packed_stg (s : State) (bs : Bits) : (s.packed bs).stg = s.stg := rfl
@[simp] theorem packed_tb0 (s : State) (bs : Bits) : (s.packed bs).tb0 = s.tb0 := rfl
@[simp] theorem packed_tb1 (s : State) (bs : Bits) : (s.packed bs).tb1 = s.tb1 := rfl
@[simp] theorem packed_refsel (s : State) (bs : Bits) : (s.packed bs).refsel = s.refsel := rfl
@[simp] theorem packed_a0 (s : State) (bs : Bits) : (s.packed bs).a0 = s.a0 := rfl
@[simp] theorem packed_colour (s : State) (bs : Bits) : (s.packed bs).colour = s.colour := rfl
@[simp] theorem packed_line (s : State) (bs : Bits) : (s.packed bs).line = s.line := rfl
@[simp] theorem packed_out (s : State) (bs : Bits) : (s.packed bs).out = s.out := rfl
@[simp] theorem packed_delivered (s : State) (bs : Bits) : (s.packed bs).delivered = s.delivered := rfl
@[simp] theorem packed_deliveredAtInit (s : State) (bs : Bits) :
    (s.packed bs).deliveredAtInit = s.deliveredAtInit := rfl
@[simp] theorem packed_rc (s : State) (bs : Bits) : (s.packed bs).rc = s.rc := rfl
@[simp] theorem packed_data (s : State) (bs : Bits) : (s.packed bs).data = s.data := rfl
@[simp] theorem packed_codes (s : State) (bs : Bits) : (s.packed bs).codes = s.codes := rfl
@[simp] theorem packed_host (s : State) (bs : Bits) : (s.packed bs).host = s.host := rfl
@[simp] theorem packed_sinkReplies (s : State) (bs : Bits) : (s.packed bs).sinkReplies = s.sinkReplies := rfl
@[simp] theorem packed_resetIn (s : State) (bs : Bits) : (s.packed bs).resetIn = s.resetIn := rfl
@[simp] theorem packed_freeCount (s : State) (bs : Bits) : (s.packed bs).freeCount = s.freeCount := rfl

/-! Bytes stored in OUT (R203). -/

@[simp] theorem stored_params (s : State) (vs : List Byte) : (s.stored vs).params = s.params := rfl
@[simp] theorem stored_cfg (s : State) (vs : List Byte) : (s.stored vs).cfg = s.cfg := rfl
@[simp] theorem stored_stateReg (s : State) (vs : List Byte) : (s.stored vs).stateReg = s.stateReg := rfl
@[simp] theorem stored_rows (s : State) (vs : List Byte) : (s.stored vs).rows = s.rows := rfl
@[simp] theorem stored_err (s : State) (vs : List Byte) : (s.stored vs).err = s.err := rfl
@[simp] theorem stored_count (s : State) (vs : List Byte) :
    (s.stored vs).count = s.count + BitVec.ofNat 32 vs.length := rfl
@[simp] theorem stored_acc (s : State) (vs : List Byte) : (s.stored vs).acc = s.acc := rfl
@[simp] theorem stored_nb (s : State) (vs : List Byte) : (s.stored vs).nb = s.nb := rfl
@[simp] theorem stored_stg (s : State) (vs : List Byte) : (s.stored vs).stg = s.stg := rfl
@[simp] theorem stored_tb0 (s : State) (vs : List Byte) : (s.stored vs).tb0 = s.tb0 := rfl
@[simp] theorem stored_tb1 (s : State) (vs : List Byte) : (s.stored vs).tb1 = s.tb1 := rfl
@[simp] theorem stored_refsel (s : State) (vs : List Byte) : (s.stored vs).refsel = s.refsel := rfl
@[simp] theorem stored_a0 (s : State) (vs : List Byte) : (s.stored vs).a0 = s.a0 := rfl
@[simp] theorem stored_colour (s : State) (vs : List Byte) : (s.stored vs).colour = s.colour := rfl
@[simp] theorem stored_line (s : State) (vs : List Byte) : (s.stored vs).line = s.line := rfl
@[simp] theorem stored_out (s : State) (vs : List Byte) : (s.stored vs).out = writeBytes s.out s.count.toNat vs := rfl
@[simp] theorem stored_delivered (s : State) (vs : List Byte) : (s.stored vs).delivered = s.delivered := rfl
@[simp] theorem stored_deliveredAtInit (s : State) (vs : List Byte) :
    (s.stored vs).deliveredAtInit = s.deliveredAtInit := rfl
@[simp] theorem stored_rc (s : State) (vs : List Byte) : (s.stored vs).rc = s.rc := rfl
@[simp] theorem stored_data (s : State) (vs : List Byte) : (s.stored vs).data = s.data := rfl
@[simp] theorem stored_codes (s : State) (vs : List Byte) : (s.stored vs).codes = s.codes := rfl
@[simp] theorem stored_host (s : State) (vs : List Byte) : (s.stored vs).host = s.host := rfl
@[simp] theorem stored_sinkReplies (s : State) (vs : List Byte) : (s.stored vs).sinkReplies = s.sinkReplies := rfl
@[simp] theorem stored_resetIn (s : State) (vs : List Byte) : (s.stored vs).resetIn = s.resetIn := rfl
@[simp] theorem stored_freeCount (s : State) (vs : List Byte) : (s.stored vs).freeCount = s.freeCount := rfl

/-! Segments delivered (R205). -/

@[simp] theorem pushed_params (s : State) (segs : List (List Byte)) (rest : List Byte) :
    (s.pushed segs rest).params = s.params := rfl
@[simp] theorem pushed_cfg (s : State) (segs : List (List Byte)) (rest : List Byte) :
    (s.pushed segs rest).cfg = s.cfg := rfl
@[simp] theorem pushed_stateReg (s : State) (segs : List (List Byte)) (rest : List Byte) :
    (s.pushed segs rest).stateReg = s.stateReg := rfl
@[simp] theorem pushed_rows (s : State) (segs : List (List Byte)) (rest : List Byte) :
    (s.pushed segs rest).rows = s.rows := rfl
@[simp] theorem pushed_err (s : State) (segs : List (List Byte)) (rest : List Byte) :
    (s.pushed segs rest).err = s.err := rfl
@[simp] theorem pushed_count (s : State) (segs : List (List Byte)) (rest : List Byte) :
    (s.pushed segs rest).count = s.count + BitVec.ofNat 32 segs.flatten.length := rfl
@[simp] theorem pushed_acc (s : State) (segs : List (List Byte)) (rest : List Byte) :
    (s.pushed segs rest).acc = s.acc := rfl
@[simp] theorem pushed_nb (s : State) (segs : List (List Byte)) (rest : List Byte) :
    (s.pushed segs rest).nb = s.nb := rfl
@[simp] theorem pushed_stg (s : State) (segs : List (List Byte)) (rest : List Byte) :
    (s.pushed segs rest).stg = rest := rfl
@[simp] theorem pushed_tb0 (s : State) (segs : List (List Byte)) (rest : List Byte) :
    (s.pushed segs rest).tb0 = s.tb0 := rfl
@[simp] theorem pushed_tb1 (s : State) (segs : List (List Byte)) (rest : List Byte) :
    (s.pushed segs rest).tb1 = s.tb1 := rfl
@[simp] theorem pushed_refsel (s : State) (segs : List (List Byte)) (rest : List Byte) :
    (s.pushed segs rest).refsel = s.refsel := rfl
@[simp] theorem pushed_a0 (s : State) (segs : List (List Byte)) (rest : List Byte) :
    (s.pushed segs rest).a0 = s.a0 := rfl
@[simp] theorem pushed_colour (s : State) (segs : List (List Byte)) (rest : List Byte) :
    (s.pushed segs rest).colour = s.colour := rfl
@[simp] theorem pushed_line (s : State) (segs : List (List Byte)) (rest : List Byte) :
    (s.pushed segs rest).line = s.line := rfl
@[simp] theorem pushed_out (s : State) (segs : List (List Byte)) (rest : List Byte) :
    (s.pushed segs rest).out = s.out := rfl
@[simp] theorem pushed_delivered (s : State) (segs : List (List Byte)) (rest : List Byte) :
    (s.pushed segs rest).delivered = s.delivered ++ segs := rfl
@[simp] theorem pushed_deliveredAtInit (s : State) (segs : List (List Byte)) (rest : List Byte) :
    (s.pushed segs rest).deliveredAtInit = s.deliveredAtInit := rfl
@[simp] theorem pushed_rc (s : State) (segs : List (List Byte)) (rest : List Byte) :
    (s.pushed segs rest).rc = s.rc := rfl
@[simp] theorem pushed_data (s : State) (segs : List (List Byte)) (rest : List Byte) :
    (s.pushed segs rest).data = s.data := rfl
@[simp] theorem pushed_codes (s : State) (segs : List (List Byte)) (rest : List Byte) :
    (s.pushed segs rest).codes = s.codes := rfl
@[simp] theorem pushed_host (s : State) (segs : List (List Byte)) (rest : List Byte) :
    (s.pushed segs rest).host = s.host := rfl
@[simp] theorem pushed_sinkReplies (s : State) (segs : List (List Byte)) (rest : List Byte) :
    (s.pushed segs rest).sinkReplies = s.sinkReplies.drop segs.length := rfl
@[simp] theorem pushed_resetIn (s : State) (segs : List (List Byte)) (rest : List Byte) :
    (s.pushed segs rest).resetIn = s.resetIn := rfl
@[simp] theorem pushed_freeCount (s : State) (segs : List (List Byte)) (rest : List Byte) :
    (s.pushed segs rest).freeCount = s.freeCount := rfl

/-! The current buffer overwritten (R132). -/

@[simp] theorem setCur_params (s : State) (t : List Nat) : (s.setCur t).params = s.params := by
  unfold State.setCur; split <;> rfl
@[simp] theorem setCur_cfg (s : State) (t : List Nat) : (s.setCur t).cfg = s.cfg := by
  unfold State.setCur; split <;> rfl
@[simp] theorem setCur_stateReg (s : State) (t : List Nat) : (s.setCur t).stateReg = s.stateReg := by
  unfold State.setCur; split <;> rfl
@[simp] theorem setCur_rows (s : State) (t : List Nat) : (s.setCur t).rows = s.rows := by
  unfold State.setCur; split <;> rfl
@[simp] theorem setCur_err (s : State) (t : List Nat) : (s.setCur t).err = s.err := by
  unfold State.setCur; split <;> rfl
@[simp] theorem setCur_count (s : State) (t : List Nat) : (s.setCur t).count = s.count := by
  unfold State.setCur; split <;> rfl
@[simp] theorem setCur_acc (s : State) (t : List Nat) : (s.setCur t).acc = s.acc := by
  unfold State.setCur; split <;> rfl
@[simp] theorem setCur_nb (s : State) (t : List Nat) : (s.setCur t).nb = s.nb := by
  unfold State.setCur; split <;> rfl
@[simp] theorem setCur_stg (s : State) (t : List Nat) : (s.setCur t).stg = s.stg := by
  unfold State.setCur; split <;> rfl
@[simp] theorem setCur_refsel (s : State) (t : List Nat) : (s.setCur t).refsel = s.refsel := by
  unfold State.setCur; split <;> rfl
@[simp] theorem setCur_a0 (s : State) (t : List Nat) : (s.setCur t).a0 = s.a0 := by
  unfold State.setCur; split <;> rfl
@[simp] theorem setCur_colour (s : State) (t : List Nat) : (s.setCur t).colour = s.colour := by
  unfold State.setCur; split <;> rfl
@[simp] theorem setCur_line (s : State) (t : List Nat) : (s.setCur t).line = s.line := by
  unfold State.setCur; split <;> rfl
@[simp] theorem setCur_out (s : State) (t : List Nat) : (s.setCur t).out = s.out := by
  unfold State.setCur; split <;> rfl
@[simp] theorem setCur_delivered (s : State) (t : List Nat) : (s.setCur t).delivered = s.delivered := by
  unfold State.setCur; split <;> rfl
@[simp] theorem setCur_deliveredAtInit (s : State) (t : List Nat) : (s.setCur t).deliveredAtInit = s.deliveredAtInit := by
  unfold State.setCur; split <;> rfl
@[simp] theorem setCur_rc (s : State) (t : List Nat) : (s.setCur t).rc = s.rc := by
  unfold State.setCur; split <;> rfl
@[simp] theorem setCur_data (s : State) (t : List Nat) : (s.setCur t).data = s.data := by
  unfold State.setCur; split <;> rfl
@[simp] theorem setCur_codes (s : State) (t : List Nat) : (s.setCur t).codes = s.codes := by
  unfold State.setCur; split <;> rfl
@[simp] theorem setCur_host (s : State) (t : List Nat) : (s.setCur t).host = s.host := by
  unfold State.setCur; split <;> rfl
@[simp] theorem setCur_sinkReplies (s : State) (t : List Nat) : (s.setCur t).sinkReplies = s.sinkReplies := by
  unfold State.setCur; split <;> rfl
@[simp] theorem setCur_resetIn (s : State) (t : List Nat) : (s.setCur t).resetIn = s.resetIn := by
  unfold State.setCur; split <;> rfl
@[simp] theorem setCur_freeCount (s : State) (t : List Nat) : (s.setCur t).freeCount = s.freeCount := by
  unfold State.setCur; split <;> rfl

/-! The sink's answer taken (R63). -/

@[simp] theorem takeReply_params (s : State) : (takeReply s).params = s.params := by
  unfold takeReply; split <;> rfl
@[simp] theorem takeReply_cfg (s : State) : (takeReply s).cfg = s.cfg := by
  unfold takeReply; split <;> rfl
@[simp] theorem takeReply_stateReg (s : State) : (takeReply s).stateReg = s.stateReg := by
  unfold takeReply; split <;> rfl
@[simp] theorem takeReply_rows (s : State) : (takeReply s).rows = s.rows := by
  unfold takeReply; split <;> rfl
@[simp] theorem takeReply_err (s : State) : (takeReply s).err = s.err := by
  unfold takeReply; split <;> rfl
@[simp] theorem takeReply_count (s : State) : (takeReply s).count = s.count := by
  unfold takeReply; split <;> rfl
@[simp] theorem takeReply_acc (s : State) : (takeReply s).acc = s.acc := by
  unfold takeReply; split <;> rfl
@[simp] theorem takeReply_nb (s : State) : (takeReply s).nb = s.nb := by
  unfold takeReply; split <;> rfl
@[simp] theorem takeReply_stg (s : State) : (takeReply s).stg = s.stg := by
  unfold takeReply; split <;> rfl
@[simp] theorem takeReply_tb0 (s : State) : (takeReply s).tb0 = s.tb0 := by
  unfold takeReply; split <;> rfl
@[simp] theorem takeReply_tb1 (s : State) : (takeReply s).tb1 = s.tb1 := by
  unfold takeReply; split <;> rfl
@[simp] theorem takeReply_refsel (s : State) : (takeReply s).refsel = s.refsel := by
  unfold takeReply; split <;> rfl
@[simp] theorem takeReply_a0 (s : State) : (takeReply s).a0 = s.a0 := by
  unfold takeReply; split <;> rfl
@[simp] theorem takeReply_colour (s : State) : (takeReply s).colour = s.colour := by
  unfold takeReply; split <;> rfl
@[simp] theorem takeReply_line (s : State) : (takeReply s).line = s.line := by
  unfold takeReply; split <;> rfl
@[simp] theorem takeReply_out (s : State) : (takeReply s).out = s.out := by
  unfold takeReply; split <;> rfl
@[simp] theorem takeReply_delivered (s : State) : (takeReply s).delivered = s.delivered := by
  unfold takeReply; split <;> rfl
@[simp] theorem takeReply_deliveredAtInit (s : State) : (takeReply s).deliveredAtInit = s.deliveredAtInit := by
  unfold takeReply; split <;> rfl
@[simp] theorem takeReply_rc (s : State) : (takeReply s).rc = s.rc := by
  unfold takeReply; split <;> rfl
@[simp] theorem takeReply_data (s : State) : (takeReply s).data = s.data := by
  unfold takeReply; split <;> rfl
@[simp] theorem takeReply_codes (s : State) : (takeReply s).codes = s.codes := by
  unfold takeReply; split <;> rfl
@[simp] theorem takeReply_host (s : State) : (takeReply s).host = s.host := by
  unfold takeReply; split <;> rfl
@[simp] theorem takeReply_resetIn (s : State) : (takeReply s).resetIn = s.resetIn := by
  unfold takeReply; split <;> rfl

/-! An emission that the output takes (R200 to R205). -/

@[simp] theorem emitted_params (s : State) (bs : Bits) : (s.emitted bs).params = s.params := by
  unfold State.emitted; split <;> rfl
@[simp] theorem emitted_cfg (s : State) (bs : Bits) : (s.emitted bs).cfg = s.cfg := by
  unfold State.emitted; split <;> rfl
@[simp] theorem emitted_stateReg (s : State) (bs : Bits) : (s.emitted bs).stateReg = s.stateReg := by
  unfold State.emitted; split <;> rfl
@[simp] theorem emitted_rows (s : State) (bs : Bits) : (s.emitted bs).rows = s.rows := by
  unfold State.emitted; split <;> rfl
@[simp] theorem emitted_err (s : State) (bs : Bits) : (s.emitted bs).err = s.err := by
  unfold State.emitted; split <;> rfl
@[simp] theorem emitted_tb0 (s : State) (bs : Bits) : (s.emitted bs).tb0 = s.tb0 := by
  unfold State.emitted; split <;> rfl
@[simp] theorem emitted_tb1 (s : State) (bs : Bits) : (s.emitted bs).tb1 = s.tb1 := by
  unfold State.emitted; split <;> rfl
@[simp] theorem emitted_refsel (s : State) (bs : Bits) : (s.emitted bs).refsel = s.refsel := by
  unfold State.emitted; split <;> rfl
@[simp] theorem emitted_a0 (s : State) (bs : Bits) : (s.emitted bs).a0 = s.a0 := by
  unfold State.emitted; split <;> rfl
@[simp] theorem emitted_colour (s : State) (bs : Bits) : (s.emitted bs).colour = s.colour := by
  unfold State.emitted; split <;> rfl
@[simp] theorem emitted_line (s : State) (bs : Bits) : (s.emitted bs).line = s.line := by
  unfold State.emitted; split <;> rfl
@[simp] theorem emitted_deliveredAtInit (s : State) (bs : Bits) : (s.emitted bs).deliveredAtInit = s.deliveredAtInit := by
  unfold State.emitted; split <;> rfl
@[simp] theorem emitted_rc (s : State) (bs : Bits) : (s.emitted bs).rc = s.rc := by
  unfold State.emitted; split <;> rfl
@[simp] theorem emitted_data (s : State) (bs : Bits) : (s.emitted bs).data = s.data := by
  unfold State.emitted; split <;> rfl
@[simp] theorem emitted_codes (s : State) (bs : Bits) : (s.emitted bs).codes = s.codes := by
  unfold State.emitted; split <;> rfl
@[simp] theorem emitted_host (s : State) (bs : Bits) : (s.emitted bs).host = s.host := by
  unfold State.emitted; split <;> rfl
@[simp] theorem emitted_resetIn (s : State) (bs : Bits) : (s.emitted bs).resetIn = s.resetIn := by
  unfold State.emitted; split <;> rfl
@[simp] theorem emitted_freeCount (s : State) (bs : Bits) : (s.emitted bs).freeCount = s.freeCount := by
  unfold State.emitted; split <;> rfl

end Sys2Proof.Machine
end

