-- ==== Sys2Proof/Laws/Image.lean ====
section
/-! SUPPORT. What cutting bytes into segments can do (43_bitpacker.md R204, R205). -/

namespace Sys2Proof.Machine

/-- Cutting loses no byte: the segments and what stays staged, joined, are what was staged and the bytes. -/
theorem segmentsOf_flatten (n : Nat) (stg vs : List Byte) :
    (segmentsOf n stg vs).1.flatten ++ (segmentsOf n stg vs).2 = stg ++ vs := by
  induction vs generalizing stg with
  | nil => simp [segmentsOf]
  | cons v vs ih =>
    unfold segmentsOf
    split
    · simp [ih]
    · simp [ih]

/-- Each segment is full. -/
theorem segmentsOf_full {n : Nat} {stg vs seg : List Byte} (h : seg ∈ (segmentsOf n stg vs).1) : seg.length = n := by
  induction vs generalizing stg with
  | nil => simp [segmentsOf] at h
  | cons v vs ih =>
    unfold segmentsOf at h
    split at h
    · obtain rfl | h := List.mem_cons.1 h
      · assumption
      · exact ih h
    · exact ih h

/-- What stays staged is less than a segment. -/
theorem segmentsOf_staged {n : Nat} {stg : List Byte} (vs : List Byte) (h : stg.length < n) :
    (segmentsOf n stg vs).2.length < n := by
  induction vs generalizing stg with
  | nil => exact h
  | cons v vs ih =>
    unfold segmentsOf
    split
    · exact ih (by simp; omega)
    · rename_i hne
      exact ih (by simp at hne ⊢; omega)

end Sys2Proof.Machine
end

