-- ==== Sys2Proof/Laws/Memory.lean ====
section
/-! SUPPORT. The laws of the OUT space (20_memory.md R62): a write is read back, it leaves every other index alone, and
every operation keeps the canonical form. -/

namespace Sys2Proof.Machine

/-- A byte that has been written is read back. -/
@[simp] theorem memRead_memWrite_same (m : Memory) (a : Nat) (v : Byte) : memRead (memWrite m a v) a = some v := by
  induction m with
  | nil => simp [memWrite, memRead]
  | cons c m ih =>
    obtain ⟨b, w⟩ := c
    unfold memWrite
    split
    · simp [memRead]
    · split
      · simp [memRead]
      · rename_i h
        simp [memRead, h, ih]

/-- A write leaves every other index alone. -/
theorem memRead_memWrite_other (m : Memory) {a b : Nat} (v : Byte) (h : b ≠ a) :
    memRead (memWrite m a v) b = memRead m b := by
  induction m with
  | nil => simp [memWrite, memRead, h]
  | cons c m ih =>
    obtain ⟨x, w⟩ := c
    unfold memWrite
    split
    · simp [memRead, h]
    · split
      · rename_i hax
        subst hax
        simp [memRead, h]
      · simp [memRead, ih]

/-- The address of the first entry of a memory lies above a bound; so it does in the empty memory. -/
def Memory.above (a : Nat) : Memory → Prop
  | [] => True
  | (b, _) :: _ => a < b

/-- The canonical form, entry by entry. -/
theorem Memory.wf_cons (a : Nat) (v : Byte) (m : Memory) :
    Memory.wf ((a, v) :: m) = true ↔ Memory.above a m ∧ Memory.wf m = true := by
  cases m with
  | nil => simp [Memory.wf, Memory.above]
  | cons c m => simp [Memory.wf, Memory.above]

/-- A write above a bound keeps the memory above it. -/
theorem Memory.above_memWrite {x : Nat} {m : Memory} (a : Nat) (v : Byte) (hm : Memory.above x m) (h : x < a) :
    Memory.above x (memWrite m a v) := by
  cases m with
  | nil => exact h
  | cons c m =>
    unfold memWrite
    split
    · exact h
    · split
      · exact h
      · exact hm

/-- A write keeps the canonical form. -/
theorem memWrite_wf {m : Memory} (a : Nat) (v : Byte) (h : Memory.wf m = true) : Memory.wf (memWrite m a v) = true := by
  induction m with
  | nil => rfl
  | cons c m ih =>
    obtain ⟨b, w⟩ := c
    obtain ⟨hab, hm⟩ := (Memory.wf_cons b w m).1 h
    unfold memWrite
    split
    · exact (Memory.wf_cons a v _).2 ⟨by assumption, h⟩
    · split
      · rename_i hlt heq
        subst heq
        exact (Memory.wf_cons a v m).2 ⟨hab, hm⟩
      · exact (Memory.wf_cons b w _).2 ⟨Memory.above_memWrite a v hab (by omega), ih hm⟩

/-- A list of writes keeps the canonical form. -/
theorem writeBytes_wf {m : Memory} (vs : List Byte) (a : Nat) (h : Memory.wf m = true) :
    Memory.wf (writeBytes m a vs) = true := by
  induction vs generalizing m a with
  | nil => exact h
  | cons v vs ih => exact ih (a + 1) (memWrite_wf a v h)

/-- A list of writes leaves every index outside it alone. -/
theorem memRead_writeBytes_other (m : Memory) (vs : List Byte) {a b : Nat} (h : b < a ∨ a + vs.length ≤ b) :
    memRead (writeBytes m a vs) b = memRead m b := by
  induction vs generalizing m a with
  | nil => rfl
  | cons v vs ih =>
    simp only [List.length_cons] at h
    rw [writeBytes, ih _ (by omega), memRead_memWrite_other _ _ (by omega)]

/-- A list of writes is read back byte by byte. -/
theorem memRead_writeBytes_inside (m : Memory) (vs : List Byte) (a k : Nat) (h : k < vs.length) :
    memRead (writeBytes m a vs) (a + k) = vs[k]? := by
  induction vs generalizing m a k with
  | nil => simp at h
  | cons v vs ih =>
    cases k with
    | zero => rw [writeBytes, memRead_writeBytes_other _ _ (by omega)]; simp
    | succ k =>
      simp only [List.length_cons] at h
      have := ih (memWrite m a v) (a + 1) k (by omega)
      rw [writeBytes, show a + (k + 1) = a + 1 + k by omega, this]
      simp

/-- The memory at reset has the canonical form. -/
theorem reset_out_wf : Memory.wf State.reset.out = true := rfl

end Sys2Proof.Machine
end

