-- ==== Sys2Proof/Laws/Ops.lean ====
section
/-! SUPPORT. For each shared operation, once, everything it can do, and what the packer and the coding steps leave alone.
Proofs cite these and do not unfold the operations. -/

namespace Sys2Proof.Machine

/-! ### The course of an operation -/

theorem andThen_ok_iff {r : Res} {k : State → Res} {t : State} :
    r.andThen k = .ok t ↔ ∃ s, r = .ok s ∧ k s = .ok t := by
  cases r <;> simp [Res.andThen]

theorem andThen_raised_iff {r : Res} {k : State → Res} {e : ErrKind} {t : State} :
    r.andThen k = .raised e t ↔ r = .raised e t ∨ ∃ s, r = .ok s ∧ k s = .raised e t := by
  cases r <;> simp [Res.andThen]

theorem andThen_cut_iff {r : Res} {k : State → Res} {t : State} :
    r.andThen k = .cut t ↔ r = .cut t ∨ ∃ s, r = .ok s ∧ k s = .cut t := by
  cases r <;> simp [Res.andThen]

theorem andThen_stop_iff {r : Res} {k : State → Res} {f : Fault} :
    r.andThen k = .stop f ↔ r = .stop f ∨ ∃ s, r = .ok s ∧ k s = .stop f := by
  cases r <;> simp [Res.andThen]

theorem andThen_refuse_iff {r : Res} {k : State → Res} {x : Refusal} :
    r.andThen k = .refuse x ↔ r = .refuse x ∨ ∃ s, r = .ok s ∧ k s = .refuse x := by
  cases r <;> simp [Res.andThen]

@[simp] theorem andThen_ok (s : State) (k : State → Res) : (Res.ok s).andThen k = k s := rfl
@[simp] theorem andThen_raised (e : ErrKind) (s : State) (k : State → Res) :
    (Res.raised e s).andThen k = .raised e s := rfl
@[simp] theorem andThen_cut (s : State) (k : State → Res) : (Res.cut s).andThen k = .cut s := rfl
@[simp] theorem andThen_stop (f : Fault) (k : State → Res) : (Res.stop f).andThen k = .stop f := rfl
@[simp] theorem andThen_refuse (x : Refusal) (k : State → Res) : (Res.refuse x).andThen k = .refuse x := rfl

theorem andThen_assoc (r : Res) (k l : State → Res) :
    (r.andThen k).andThen l = r.andThen fun s => (k s).andThen l := by
  cases r <;> rfl

/-- An operation answers a next state in three ways: at its end, after a raise (R258), after the reset line (R227). -/
theorem settle_next_iff {r : Res} {t : State} :
    settle r = .next t ↔
      r = .ok t ∨ (∃ e s, r = .raised e s ∧ t = takeError e s) ∨ ∃ s, r = .cut s ∧ t = hardReset s := by
  cases r <;> simp [settle, eq_comm]

/-- The states in which the course of an operation can leave off. -/
def Res.reaches (r : Res) (t : State) : Prop := r = .ok t ∨ (∃ e, r = .raised e t) ∨ r = .cut t

/-- What an operation reaches it reaches in its first part, or in its second from where the first ended. -/
theorem andThen_reaches {r : Res} {k : State → Res} {t : State} (h : (r.andThen k).reaches t) :
    r.reaches t ∨ ∃ s, r = .ok s ∧ (k s).reaches t := by
  cases r with
  | ok s => exact .inr ⟨s, rfl, h⟩
  | raised e s => exact .inl h
  | cut s => exact .inl h
  | stop f => simp [Res.reaches] at h
  | refuse x => simp [Res.reaches] at h

/-- A relation that is reflexive and transitive holds along the parts of an operation. -/
theorem andThen_along {R : State → State → Prop} (trans : ∀ a b c, R a b → R b c → R a c) {r : Res} {k : State → Res}
    {s t : State} (first : ∀ u, r.reaches u → R s u) (second : ∀ u, r = .ok u → ∀ v, (k u).reaches v → R u v)
    (h : (r.andThen k).reaches t) : R s t := by
  obtain h | ⟨u, hu, h⟩ := andThen_reaches h
  · exact first t h
  · exact trans s u t (first u (.inl hu)) (second u hu t h)

/-! ### The output port -/

/-- Before an output operation the reset line counts down, or cuts (R227). -/
theorem outputTick_cases (s : State) :
    (s.resetIn = none ∧ outputTick s = .ok s)
    ∨ (s.resetIn = some 0 ∧ outputTick s = .cut s)
    ∨ ∃ n, s.resetIn = some (n + 1) ∧ outputTick s = .ok { s with resetIn := some n } := by
  unfold outputTick
  split
  · exact .inl ⟨by assumption, rfl⟩
  · exact .inr (.inl ⟨by assumption, rfl⟩)
  · exact .inr (.inr ⟨_, by assumption, rfl⟩)

/-- Without a reset to come nothing happens before an output operation. -/
theorem outputTick_quiet {s : State} (h : s.resetIn = none) : outputTick s = .ok s := by
  simp [outputTick, h]

/-- What a push to the sink can do (R63, R205). -/
theorem sinkPush_cases (s : State) :
    (nextReply s = .ok ∧ s.count.toNat + s.stg.length < 4294967296 ∧
      sinkPush s = .ok { takeReply s with
        delivered := s.delivered ++ [s.stg], count := s.count + BitVec.ofNat 32 s.stg.length, stg := [] })
    ∨ (nextReply s = .ok ∧ 4294967296 ≤ s.count.toNat + s.stg.length ∧ sinkPush s = .refuse .countBeyond32Bits)
    ∨ (nextReply s = .fail ∧ sinkPush s = .raised .ioError (takeReply s))
    ∨ (nextReply s = .silent ∧ sinkPush s = .stop .sinkSilent) := by
  unfold sinkPush
  cases h : nextReply s
  · by_cases hc : s.count.toNat + s.stg.length < 4294967296
    · simp [hc]
    · simp only [hc, if_false]
      exact .inr (.inl ⟨trivial, by omega, trivial⟩)
  · simp
  · simp

/-- PUSH_SEGMENT refuses outside its precondition, else it pushes (R205). -/
theorem pushSegment_cases (s : State) :
    (s.cfg.sink = .stream ∧ s.stg ≠ [] ∧ pushSegment s = (outputTick s).andThen sinkPush)
    ∨ ((s.cfg.sink = .fixed ∨ s.stg = []) ∧ pushSegment s = .refuse .pushPrecondition) := by
  unfold pushSegment
  split
  · rename_i h
    exact .inl ⟨h.1, h.2, rfl⟩
  · rename_i h
    refine .inr ⟨?_, rfl⟩
    cases hs : s.cfg.sink with
    | fixed => exact .inl rfl
    | stream => exact .inr (by simpa [hs] using h)

/-- WRITE_BYTE by sink (R202). -/
theorem writeByte_cases (v : Byte) (s : State) :
    (s.cfg.sink = .fixed ∧ writeByte v s = writeByteFixed v s)
    ∨ (s.cfg.sink = .stream ∧ writeByte v s = writeByteStream v s) := by
  unfold writeByte
  split
  · exact .inl ⟨by assumption, rfl⟩
  · exact .inr ⟨by assumption, rfl⟩

/-- WRITE_BYTE with the FIXED sink: full, room, or beyond the buffer (R203). -/
theorem writeByteFixed_cases (v : Byte) (s : State) :
    (s.count = s.cfg.cap ∧ writeByteFixed v s = .raised .dataOverflow s)
    ∨ (s.count.toNat < s.cfg.cap.toNat ∧ writeByteFixed v s = (outputTick s).andThen fun s =>
        .ok { s with out := memWrite s.out s.count.toNat v, count := s.count + 1 })
    ∨ (s.cfg.cap.toNat < s.count.toNat ∧ writeByteFixed v s = .stop .outIndexBeyondCap) := by
  unfold writeByteFixed
  split
  · exact .inl ⟨by assumption, rfl⟩
  · rename_i hne
    split
    · exact .inr (.inl ⟨by assumption, rfl⟩)
    · rename_i hlt
      have : s.count.toNat ≠ s.cfg.cap.toNat := fun h => hne (BitVec.eq_of_toNat_eq h)
      exact .inr (.inr ⟨by omega, rfl⟩)

/-- WRITE_BYTE with the STREAM sink: staged, staged and pushed, or beyond the staging segment (R204). -/
theorem writeByteStream_cases (v : Byte) (s : State) :
    (s.stg.length + 1 < s.params.segSize ∧ writeByteStream v s = .ok { s with stg := s.stg ++ [v] })
    ∨ (s.stg.length + 1 = s.params.segSize ∧ writeByteStream v s = pushSegment { s with stg := s.stg ++ [v] })
    ∨ (s.params.segSize ≤ s.stg.length ∧ writeByteStream v s = .stop .stagingOverrun) := by
  unfold writeByteStream
  split
  · rename_i hlt
    by_cases h : s.stg.length + 1 = s.params.segSize
    · exact .inr (.inl ⟨h, by simp [h]⟩)
    · exact .inl ⟨by omega, by simp [h]⟩
  · exact .inr (.inr ⟨by omega, rfl⟩)

/-! ### What the packer leaves alone -/

/-- The registers that no part of the packer writes: all but ACC, NB, STG, OUT, COUNT, what the sink holds, and the
environment's inputs (R199 to R208). -/
structure PackFrame (s t : State) : Prop where
  params : t.params = s.params
  cfg : t.cfg = s.cfg
  stateReg : t.stateReg = s.stateReg
  rows : t.rows = s.rows
  err : t.err = s.err
  tb0 : t.tb0 = s.tb0
  tb1 : t.tb1 = s.tb1
  refsel : t.refsel = s.refsel
  a0 : t.a0 = s.a0
  colour : t.colour = s.colour
  line : t.line = s.line
  rc : t.rc = s.rc
  data : t.data = s.data
  codes : t.codes = s.codes
  host : t.host = s.host
  deliveredAtInit : t.deliveredAtInit = s.deliveredAtInit

theorem PackFrame.refl (s : State) : PackFrame s s := by constructor <;> rfl

theorem PackFrame.trans (a b c : State) (h : PackFrame a b) (k : PackFrame b c) : PackFrame a c := by
  constructor
  · exact k.params.trans h.params
  · exact k.cfg.trans h.cfg
  · exact k.stateReg.trans h.stateReg
  · exact k.rows.trans h.rows
  · exact k.err.trans h.err
  · exact k.tb0.trans h.tb0
  · exact k.tb1.trans h.tb1
  · exact k.refsel.trans h.refsel
  · exact k.a0.trans h.a0
  · exact k.colour.trans h.colour
  · exact k.line.trans h.line
  · exact k.rc.trans h.rc
  · exact k.data.trans h.data
  · exact k.codes.trans h.codes
  · exact k.host.trans h.host
  · exact k.deliveredAtInit.trans h.deliveredAtInit

theorem outputTick_frame {s t : State} (h : (outputTick s).reaches t) : PackFrame s t := by
  obtain ⟨-, e⟩ | ⟨-, e⟩ | ⟨n, -, e⟩ := outputTick_cases s <;> rw [e] at h <;>
    (simp only [Res.reaches, Res.ok.injEq, Res.cut.injEq, reduceCtorEq, exists_false, or_false, false_or] at h
     subst h
     constructor <;> rfl)

theorem sinkPush_frame {s t : State} (h : (sinkPush s).reaches t) : PackFrame s t := by
  obtain ⟨-, -, e⟩ | ⟨-, -, e⟩ | ⟨-, e⟩ | ⟨-, e⟩ := sinkPush_cases s <;> rw [e] at h <;> simp [Res.reaches] at h <;>
    (subst h; constructor <;> simp)

theorem pushSegment_frame {s t : State} (h : (pushSegment s).reaches t) : PackFrame s t := by
  obtain ⟨-, -, e⟩ | ⟨-, e⟩ := pushSegment_cases s <;> rw [e] at h
  · exact andThen_along PackFrame.trans (fun _ => outputTick_frame) (fun _ _ _ => sinkPush_frame) h
  · simp [Res.reaches] at h

theorem writeByte_frame {v : Byte} {s t : State} (h : (writeByte v s).reaches t) : PackFrame s t := by
  obtain ⟨-, e⟩ | ⟨-, e⟩ := writeByte_cases v s <;> rw [e] at h
  · obtain ⟨-, e⟩ | ⟨-, e⟩ | ⟨-, e⟩ := writeByteFixed_cases v s <;> rw [e] at h
    · simp [Res.reaches] at h
      exact h ▸ PackFrame.refl s
    · refine andThen_along PackFrame.trans (fun _ => outputTick_frame) (fun u _ w hw => ?_) h
      simp [Res.reaches] at hw
      subst hw
      constructor <;> rfl
    · simp [Res.reaches] at h
  · obtain ⟨-, e⟩ | ⟨-, e⟩ | ⟨-, e⟩ := writeByteStream_cases v s <;> rw [e] at h
    · simp [Res.reaches] at h
      subst h
      constructor <;> rfl
    · exact PackFrame.trans s _ t (by constructor <;> rfl) (pushSegment_frame h)
    · simp [Res.reaches] at h

/-- PUSHBIT fills a position, or completes a byte (R201). -/
theorem pushBit_cases (b : Bool) (s : State) :
    (s.nb ≠ 7 ∧
      pushBit b s = .ok { s with acc := placeBit s.cfg.bitOrder s.acc s.nb b, nb := s.nb + 1 })
    ∨ (s.nb = 7 ∧
      pushBit b s = writeByte (placeBit s.cfg.bitOrder s.acc s.nb b) { s with acc := 0, nb := 0 }) := by
  unfold pushBit
  by_cases h : s.nb = 7
  · exact .inr ⟨h, if_pos h⟩
  · exact .inl ⟨h, if_neg h⟩

theorem pushBit_frame {b : Bool} {s t : State} (h : (pushBit b s).reaches t) : PackFrame s t := by
  obtain ⟨-, e⟩ | ⟨-, e⟩ := pushBit_cases b s <;> rw [e] at h
  · simp [Res.reaches] at h
    subst h
    constructor <;> rfl
  · exact PackFrame.trans s _ t (by constructor <;> rfl) (writeByte_frame h)

theorem emitBits_frame {bs : Bits} {s t : State} (h : (emitBits bs s).reaches t) : PackFrame s t := by
  induction bs generalizing s t with
  | nil =>
    simp [emitBits, Res.reaches] at h
    exact h ▸ PackFrame.refl s
  | cons b bs ih => exact andThen_along PackFrame.trans (fun _ => pushBit_frame) (fun _ _ _ hv => ih hv) h

/-- Two codewords one after another are one longer codeword (R200). -/
theorem emitBits_append (as bs : Bits) (s : State) :
    emitBits (as ++ bs) s = (emitBits as s).andThen (emitBits bs) := by
  induction as generalizing s with
  | nil => rfl
  | cons a as ih =>
    simp only [List.cons_append, emitBits, andThen_assoc]
    congr 1
    funext u
    exact ih u

/-- The codewords of a list, emitted in order, are their bits emitted (R150, R200). -/
theorem emitCodes_eq_emitBits (cs : List RunCode) (s : State) :
    emitCodes cs s = emitBits (cs.flatMap RunCode.bits) s := by
  induction cs generalizing s with
  | nil => rfl
  | cons c cs ih =>
    simp only [emitCodes, List.flatMap_cons, emitBits_append]
    congr 1
    funext u
    exact ih u

theorem emitRun_of_nonneg {n : Int} (h : 0 ≤ n) (c : Colour) (s : State) :
    emitRun n c s = emitBits ((runCodes n.toNat c).flatMap RunCode.bits) s := by
  have : ¬ n < 0 := by omega
  simp [emitRun, runOf, this, emitCodes_eq_emitBits]

theorem emitRun_of_neg {n : Int} (h : n < 0) (c : Colour) (s : State) :
    emitRun n c s = .raised .invalidParameter s := by
  simp [emitRun, runOf, h]

theorem emitRun_frame {n : Int} {c : Colour} {s t : State} (h : (emitRun n c s).reaches t) : PackFrame s t := by
  by_cases hn : n < 0
  · rw [emitRun_of_neg hn] at h
    simp [Res.reaches] at h
    exact h ▸ PackFrame.refl s
  · rw [emitRun_of_nonneg (by omega)] at h
    exact emitBits_frame h

/-- FLUSH_PARTIAL: the partial byte where bits are pending, then the staged segment where there is one (R206). -/
theorem flushPartial_frame {s t : State} (h : (flushPartial s).reaches t) : PackFrame s t := by
  refine andThen_along PackFrame.trans (fun u hu => ?_) (fun u _ w hw => ?_) h
  · split at hu
    · simp [Res.reaches] at hu
      exact hu ▸ PackFrame.refl s
    · exact PackFrame.trans s _ u (by constructor <;> rfl) (writeByte_frame hu)
  · split at hw
    · exact pushSegment_frame hw
    · simp [Res.reaches] at hw
      exact hw ▸ PackFrame.refl u

theorem emitEofb_frame {s t : State} (h : (emitEofb s).reaches t) : PackFrame s t := by
  unfold emitEofb at h
  split at h
  · exact andThen_along PackFrame.trans (fun _ => emitBits_frame) (fun _ _ _ => emitBits_frame) h
  · simp [Res.reaches] at h
    exact h ▸ PackFrame.refl s

/-! ### Transition buffers and fetching -/

/-- EXTRACT: too wide, too short a line, or the current buffer written (R132, R135). -/
theorem extractLine_cases (s : State) :
    (s.params.maxTransitions < s.W ∧ extractLine s = .raised .invalidParameter s)
    ∨ (s.W ≤ s.params.maxTransitions ∧ s.line.length < ceil8 s.W ∧ extractLine s = .refuse .lineTooShort)
    ∨ (s.W ≤ s.params.maxTransitions ∧ ceil8 s.W ≤ s.line.length
        ∧ extractLine s = .ok (s.setCur (extractSeq (pix s.cfg.bitOrder s.line) s.W))) := by
  unfold extractLine
  split
  · exact .inl ⟨by assumption, rfl⟩
  · rename_i h
    split
    · exact .inr (.inl ⟨by omega, by assumption, rfl⟩)
    · exact .inr (.inr ⟨by omega, by omega, rfl⟩)

@[simp] theorem setCur_ref (s : State) (t : List Nat) : (s.setCur t).ref = s.ref := by
  cases h : s.refsel <;> simp [State.setCur, State.ref, h]

@[simp] theorem setCur_cur (s : State) (t : List Nat) : (s.setCur t).cur = t := by
  cases h : s.refsel <;> simp [State.setCur, State.cur, h]

/-- The positions and buffers of a state that the packer has passed through (R172, R173). -/
theorem PackFrame.positions {s t : State} (h : PackFrame s t) :
    t.W = s.W ∧ t.ref = s.ref ∧ t.cur = s.cur ∧ t.a1 = s.a1 ∧ t.a2 = s.a2 ∧ t.b1 = s.b1 ∧ t.b2 = s.b2 := by
  simp [State.W, State.ref, State.cur, State.a1, State.a2, State.b1, State.b2, h.cfg, h.refsel, h.tb0, h.tb1, h.a0,
    h.colour]

/-- The head of the host's words is fetched. -/
theorem fetch_cons {s : State} {w : PortWord} {ws : List PortWord} (h : s.host = w :: ws) :
    fetch s = some (w, { s with host := ws }) := by
  simp [fetch, h]

/-- No word, no fetch. -/
theorem fetch_nil {s : State} (h : s.host = []) : fetch s = none := by
  simp [fetch, h]

/-- A placed word is the next one fetched. -/
theorem fetch_placeWord (s : State) (w : PortWord) : fetch (s.placeWord w) = some (w, { s with host := s.host.tail }) := by
  simp [fetch, State.placeWord]

end Sys2Proof.Machine
end

