-- ==== Sys2Proof/Tests/Slice0.lean ====
section
/-! SUPPORT. The model's own tests: expected values are the tables of 30_encoding.md, the vectors of 95_test_vectors.md and
the rows of spec/opcode_table.json; and, for each statement with hypotheses, a concrete state that meets them. -/

namespace Sys2Proof.Tests

open Sys2Proof Sys2Proof.Machine

set_option Elab.async false

/-! ### Well-formedness -/

theorem test_run_upper_bound : (Instr.run 131071 .black).wellFormed = true ∧ (Instr.run 131072 .black).wellFormed = false := by
  decide +kernel

theorem test_run_lower_bound :
    (Instr.run (-131072) .white).wellFormed = true ∧ (Instr.run (-131073) .white).wellFormed = false := by
  decide +kernel

theorem test_line_length : (Instr.addLine [0, 0]).fitsWidth 9 = true ∧ (Instr.addLine [0]).fitsWidth 9 = false
    ∧ (Instr.addLine [0, 0, 0]).fitsWidth 16 = false := by
  decide +kernel

/-! ### Decoding: words written out from the tables -/

/-- The digit 0 of a codeword. -/
abbrev o : Bool := false
/-- The digit 1 of a codeword. -/
abbrev l : Bool := true

/-- R95: the nine mode codewords, as that table prints them. -/
theorem test_decode_mode : ([
    ([o, o, o, l], .p),
    ([o, o, l], .h),
    ([l], .v0),
    ([o, l, l], .vr1),
    ([o, o, o, o, l, l], .vr2),
    ([o, o, o, o, o, l, l], .vr3),
    ([o, l, o], .vl1),
    ([o, o, o, o, l, o], .vl2),
    ([o, o, o, o, o, l, o], .vl3)] : List (Bits × Instr)).all (fun r =>
    decode ⟨.mode, r.1⟩ == .ok r.2 && (encode r.2).bits == r.1) = true := by decide +kernel

/-- R101, as that table prints them. -/
theorem test_decode_white_term_0 : ([
    ([o, o, l, l, o, l, o, l], .wt0),
    ([o, o, o, l, l, l], .wt1),
    ([o, l, l, l], .wt2),
    ([l, o, o, o], .wt3),
    ([l, o, l, l], .wt4),
    ([l, l, o, o], .wt5),
    ([l, l, l, o], .wt6),
    ([l, l, l, l], .wt7),
    ([l, o, o, l, l], .wt8),
    ([l, o, l, o, o], .wt9),
    ([o, o, l, l, l], .wt10),
    ([o, l, o, o, o], .wt11),
    ([o, o, l, o, o, o], .wt12),
    ([o, o, o, o, l, l], .wt13),
    ([l, l, o, l, o, o], .wt14),
    ([l, l, o, l, o, l], .wt15)] : List (Bits × Instr)).all (fun r =>
    decode ⟨.white, r.1⟩ == .ok r.2 && (encode r.2).bits == r.1) = true := by decide +kernel

/-- R101, as that table prints them. -/
theorem test_decode_white_term_16 : ([
    ([l, o, l, o, l, o], .wt16),
    ([l, o, l, o, l, l], .wt17),
    ([o, l, o, o, l, l, l], .wt18),
    ([o, o, o, l, l, o, o], .wt19),
    ([o, o, o, l, o, o, o], .wt20),
    ([o, o, l, o, l, l, l], .wt21),
    ([o, o, o, o, o, l, l], .wt22),
    ([o, o, o, o, l, o, o], .wt23),
    ([o, l, o, l, o, o, o], .wt24),
    ([o, l, o, l, o, l, l], .wt25),
    ([o, o, l, o, o, l, l], .wt26),
    ([o, l, o, o, l, o, o], .wt27),
    ([o, o, l, l, o, o, o], .wt28),
    ([o, o, o, o, o, o, l, o], .wt29),
    ([o, o, o, o, o, o, l, l], .wt30),
    ([o, o, o, l, l, o, l, o], .wt31)] : List (Bits × Instr)).all (fun r =>
    decode ⟨.white, r.1⟩ == .ok r.2 && (encode r.2).bits == r.1) = true := by decide +kernel

/-- R101, as that table prints them. -/
theorem test_decode_white_term_32 : ([
    ([o, o, o, l, l, o, l, l], .wt32),
    ([o, o, o, l, o, o, l, o], .wt33),
    ([o, o, o, l, o, o, l, l], .wt34),
    ([o, o, o, l, o, l, o, o], .wt35),
    ([o, o, o, l, o, l, o, l], .wt36),
    ([o, o, o, l, o, l, l, o], .wt37),
    ([o, o, o, l, o, l, l, l], .wt38),
    ([o, o, l, o, l, o, o, o], .wt39),
    ([o, o, l, o, l, o, o, l], .wt40),
    ([o, o, l, o, l, o, l, o], .wt41),
    ([o, o, l, o, l, o, l, l], .wt42),
    ([o, o, l, o, l, l, o, o], .wt43),
    ([o, o, l, o, l, l, o, l], .wt44),
    ([o, o, o, o, o, l, o, o], .wt45),
    ([o, o, o, o, o, l, o, l], .wt46),
    ([o, o, o, o, l, o, l, o], .wt47)] : List (Bits × Instr)).all (fun r =>
    decode ⟨.white, r.1⟩ == .ok r.2 && (encode r.2).bits == r.1) = true := by decide +kernel

/-- R101, as that table prints them. -/
theorem test_decode_white_term_48 : ([
    ([o, o, o, o, l, o, l, l], .wt48),
    ([o, l, o, l, o, o, l, o], .wt49),
    ([o, l, o, l, o, o, l, l], .wt50),
    ([o, l, o, l, o, l, o, o], .wt51),
    ([o, l, o, l, o, l, o, l], .wt52),
    ([o, o, l, o, o, l, o, o], .wt53),
    ([o, o, l, o, o, l, o, l], .wt54),
    ([o, l, o, l, l, o, o, o], .wt55),
    ([o, l, o, l, l, o, o, l], .wt56),
    ([o, l, o, l, l, o, l, o], .wt57),
    ([o, l, o, l, l, o, l, l], .wt58),
    ([o, l, o, o, l, o, l, o], .wt59),
    ([o, l, o, o, l, o, l, l], .wt60),
    ([o, o, l, l, o, o, l, o], .wt61),
    ([o, o, l, l, o, o, l, l], .wt62),
    ([o, o, l, l, o, l, o, o], .wt63)] : List (Bits × Instr)).all (fun r =>
    decode ⟨.white, r.1⟩ == .ok r.2 && (encode r.2).bits == r.1) = true := by decide +kernel

/-- R102, as that table prints them. -/
theorem test_decode_black_term_0 : ([
    ([o, o, o, o, l, l, o, l, l, l], .bt0),
    ([o, l, o], .bt1),
    ([l, l], .bt2),
    ([l, o], .bt3),
    ([o, l, l], .bt4),
    ([o, o, l, l], .bt5),
    ([o, o, l, o], .bt6),
    ([o, o, o, l, l], .bt7),
    ([o, o, o, l, o, l], .bt8),
    ([o, o, o, l, o, o], .bt9),
    ([o, o, o, o, l, o, o], .bt10),
    ([o, o, o, o, l, o, l], .bt11),
    ([o, o, o, o, l, l, l], .bt12),
    ([o, o, o, o, o, l, o, o], .bt13),
    ([o, o, o, o, o, l, l, l], .bt14),
    ([o, o, o, o, l, l, o, o, o], .bt15)] : List (Bits × Instr)).all (fun r =>
    decode ⟨.black, r.1⟩ == .ok r.2 && (encode r.2).bits == r.1) = true := by decide +kernel

/-- R102, as that table prints them. -/
theorem test_decode_black_term_16 : ([
    ([o, o, o, o, o, l, o, l, l, l], .bt16),
    ([o, o, o, o, o, l, l, o, o, o], .bt17),
    ([o, o, o, o, o, o, l, o, o, o], .bt18),
    ([o, o, o, o, l, l, o, o, l, l, l], .bt19),
    ([o, o, o, o, l, l, o, l, o, o, o], .bt20),
    ([o, o, o, o, l, l, o, l, l, o, o], .bt21),
    ([o, o, o, o, o, l, l, o, l, l, l], .bt22),
    ([o, o, o, o, o, l, o, l, o, o, o], .bt23),
    ([o, o, o, o, o, o, l, o, l, l, l], .bt24),
    ([o, o, o, o, o, o, l, l, o, o, o], .bt25),
    ([o, o, o, o, l, l, o, o, l, o, l, o], .bt26),
    ([o, o, o, o, l, l, o, o, l, o, l, l], .bt27),
    ([o, o, o, o, l, l, o, o, l, l, o, o], .bt28),
    ([o, o, o, o, l, l, o, o, l, l, o, l], .bt29),
    ([o, o, o, o, o, l, l, o, l, o, o, o], .bt30),
    ([o, o, o, o, o, l, l, o, l, o, o, l], .bt31)] : List (Bits × Instr)).all (fun r =>
    decode ⟨.black, r.1⟩ == .ok r.2 && (encode r.2).bits == r.1) = true := by decide +kernel

/-- R102, as that table prints them. -/
theorem test_decode_black_term_32 : ([
    ([o, o, o, o, o, l, l, o, l, o, l, o], .bt32),
    ([o, o, o, o, o, l, l, o, l, o, l, l], .bt33),
    ([o, o, o, o, l, l, o, l, o, o, l, o], .bt34),
    ([o, o, o, o, l, l, o, l, o, o, l, l], .bt35),
    ([o, o, o, o, l, l, o, l, o, l, o, o], .bt36),
    ([o, o, o, o, l, l, o, l, o, l, o, l], .bt37),
    ([o, o, o, o, l, l, o, l, o, l, l, o], .bt38),
    ([o, o, o, o, l, l, o, l, o, l, l, l], .bt39),
    ([o, o, o, o, o, l, l, o, l, l, o, o], .bt40),
    ([o, o, o, o, o, l, l, o, l, l, o, l], .bt41),
    ([o, o, o, o, l, l, o, l, l, o, l, o], .bt42),
    ([o, o, o, o, l, l, o, l, l, o, l, l], .bt43),
    ([o, o, o, o, o, l, o, l, o, l, o, o], .bt44),
    ([o, o, o, o, o, l, o, l, o, l, o, l], .bt45),
    ([o, o, o, o, o, l, o, l, o, l, l, o], .bt46),
    ([o, o, o, o, o, l, o, l, o, l, l, l], .bt47)] : List (Bits × Instr)).all (fun r =>
    decode ⟨.black, r.1⟩ == .ok r.2 && (encode r.2).bits == r.1) = true := by decide +kernel

/-- R102, as that table prints them. -/
theorem test_decode_black_term_48 : ([
    ([o, o, o, o, o, l, l, o, o, l, o, o], .bt48),
    ([o, o, o, o, o, l, l, o, o, l, o, l], .bt49),
    ([o, o, o, o, o, l, o, l, o, o, l, o], .bt50),
    ([o, o, o, o, o, l, o, l, o, o, l, l], .bt51),
    ([o, o, o, o, o, o, l, o, o, l, o, o], .bt52),
    ([o, o, o, o, o, o, l, l, o, l, l, l], .bt53),
    ([o, o, o, o, o, o, l, l, l, o, o, o], .bt54),
    ([o, o, o, o, o, o, l, o, o, l, l, l], .bt55),
    ([o, o, o, o, o, o, l, o, l, o, o, o], .bt56),
    ([o, o, o, o, o, l, o, l, l, o, o, o], .bt57),
    ([o, o, o, o, o, l, o, l, l, o, o, l], .bt58),
    ([o, o, o, o, o, o, l, o, l, o, l, l], .bt59),
    ([o, o, o, o, o, o, l, o, l, l, o, o], .bt60),
    ([o, o, o, o, o, l, o, l, l, o, l, o], .bt61),
    ([o, o, o, o, o, l, l, o, o, l, l, o], .bt62),
    ([o, o, o, o, o, l, l, o, o, l, l, l], .bt63)] : List (Bits × Instr)).all (fun r =>
    decode ⟨.black, r.1⟩ == .ok r.2 && (encode r.2).bits == r.1) = true := by decide +kernel

/-- R103, as that table prints them. -/
theorem test_decode_white_makeup_64 : ([
    ([l, l, o, l, l], .wm64),
    ([l, o, o, l, o], .wm128),
    ([o, l, o, l, l, l], .wm192),
    ([o, l, l, o, l, l, l], .wm256),
    ([o, o, l, l, o, l, l, o], .wm320),
    ([o, o, l, l, o, l, l, l], .wm384),
    ([o, l, l, o, o, l, o, o], .wm448),
    ([o, l, l, o, o, l, o, l], .wm512),
    ([o, l, l, o, l, o, o, o], .wm576),
    ([o, l, l, o, o, l, l, l], .wm640),
    ([o, l, l, o, o, l, l, o, o], .wm704),
    ([o, l, l, o, o, l, l, o, l], .wm768),
    ([o, l, l, o, l, o, o, l, o], .wm832),
    ([o, l, l, o, l, o, o, l, l], .wm896),
    ([o, l, l, o, l, o, l, o, o], .wm960),
    ([o, l, l, o, l, o, l, o, l], .wm1024)] : List (Bits × Instr)).all (fun r =>
    decode ⟨.white, r.1⟩ == .ok r.2 && (encode r.2).bits == r.1) = true := by decide +kernel

/-- R103, as that table prints them. -/
theorem test_decode_white_makeup_1088 : ([
    ([o, l, l, o, l, o, l, l, o], .wm1088),
    ([o, l, l, o, l, o, l, l, l], .wm1152),
    ([o, l, l, o, l, l, o, o, o], .wm1216),
    ([o, l, l, o, l, l, o, o, l], .wm1280),
    ([o, l, l, o, l, l, o, l, o], .wm1344),
    ([o, l, l, o, l, l, o, l, l], .wm1408),
    ([o, l, o, o, l, l, o, o, o], .wm1472),
    ([o, l, o, o, l, l, o, o, l], .wm1536),
    ([o, l, o, o, l, l, o, l, o], .wm1600),
    ([o, l, l, o, o, o], .wm1664),
    ([o, l, o, o, l, l, o, l, l], .wm1728)] : List (Bits × Instr)).all (fun r =>
    decode ⟨.white, r.1⟩ == .ok r.2 && (encode r.2).bits == r.1) = true := by decide +kernel

/-- R104, as that table prints them. -/
theorem test_decode_black_makeup_64 : ([
    ([o, o, o, o, o, o, l, l, l, l], .bm64),
    ([o, o, o, o, l, l, o, o, l, o, o, o], .bm128),
    ([o, o, o, o, l, l, o, o, l, o, o, l], .bm192),
    ([o, o, o, o, o, l, o, l, l, o, l, l], .bm256),
    ([o, o, o, o, o, o, l, l, o, o, l, l], .bm320),
    ([o, o, o, o, o, o, l, l, o, l, o, o], .bm384),
    ([o, o, o, o, o, o, l, l, o, l, o, l], .bm448),
    ([o, o, o, o, o, o, l, l, o, l, l, o, o], .bm512),
    ([o, o, o, o, o, o, l, l, o, l, l, o, l], .bm576),
    ([o, o, o, o, o, o, l, o, o, l, o, l, o], .bm640),
    ([o, o, o, o, o, o, l, o, o, l, o, l, l], .bm704),
    ([o, o, o, o, o, o, l, o, o, l, l, o, o], .bm768),
    ([o, o, o, o, o, o, l, o, o, l, l, o, l], .bm832),
    ([o, o, o, o, o, o, l, l, l, o, o, l, o], .bm896),
    ([o, o, o, o, o, o, l, l, l, o, o, l, l], .bm960),
    ([o, o, o, o, o, o, l, l, l, o, l, o, o], .bm1024)] : List (Bits × Instr)).all (fun r =>
    decode ⟨.black, r.1⟩ == .ok r.2 && (encode r.2).bits == r.1) = true := by decide +kernel

/-- R104, as that table prints them. -/
theorem test_decode_black_makeup_1088 : ([
    ([o, o, o, o, o, o, l, l, l, o, l, o, l], .bm1088),
    ([o, o, o, o, o, o, l, l, l, o, l, l, o], .bm1152),
    ([o, o, o, o, o, o, l, l, l, o, l, l, l], .bm1216),
    ([o, o, o, o, o, o, l, o, l, o, o, l, o], .bm1280),
    ([o, o, o, o, o, o, l, o, l, o, o, l, l], .bm1344),
    ([o, o, o, o, o, o, l, o, l, o, l, o, o], .bm1408),
    ([o, o, o, o, o, o, l, o, l, o, l, o, l], .bm1472),
    ([o, o, o, o, o, o, l, o, l, l, o, l, o], .bm1536),
    ([o, o, o, o, o, o, l, o, l, l, o, l, l], .bm1600),
    ([o, o, o, o, o, o, l, l, o, o, l, o, o], .bm1664),
    ([o, o, o, o, o, o, l, l, o, o, l, o, l], .bm1728)] : List (Bits × Instr)).all (fun r =>
    decode ⟨.black, r.1⟩ == .ok r.2 && (encode r.2).bits == r.1) = true := by decide +kernel

/-- R106, as that table prints them, read in the white set. -/
theorem test_decode_extended_1792 : ([
    ([o, o, o, o, o, o, o, l, o, o, o], .xm1792),
    ([o, o, o, o, o, o, o, l, l, o, o], .xm1856),
    ([o, o, o, o, o, o, o, l, l, o, l], .xm1920),
    ([o, o, o, o, o, o, o, l, o, o, l, o], .xm1984),
    ([o, o, o, o, o, o, o, l, o, o, l, l], .xm2048),
    ([o, o, o, o, o, o, o, l, o, l, o, o], .xm2112),
    ([o, o, o, o, o, o, o, l, o, l, o, l], .xm2176),
    ([o, o, o, o, o, o, o, l, o, l, l, o], .xm2240),
    ([o, o, o, o, o, o, o, l, o, l, l, l], .xm2304),
    ([o, o, o, o, o, o, o, l, l, l, o, o], .xm2368),
    ([o, o, o, o, o, o, o, l, l, l, o, l], .xm2432),
    ([o, o, o, o, o, o, o, l, l, l, l, o], .xm2496),
    ([o, o, o, o, o, o, o, l, l, l, l, l], .xm2560)] : List (Bits × Instr)).all (fun r =>
    decode ⟨.white, r.1⟩ == .ok r.2 && (encode r.2).bits == r.1) = true := by decide +kernel

/-- R106: the extended makeup codewords are the same in the black set. -/
theorem test_decode_extended_black : ([
    ([o, o, o, o, o, o, o, l, o, o, o], .xm1792),
    ([o, o, o, o, o, o, o, l, l, o, o], .xm1856),
    ([o, o, o, o, o, o, o, l, l, o, l], .xm1920),
    ([o, o, o, o, o, o, o, l, o, o, l, o], .xm1984),
    ([o, o, o, o, o, o, o, l, o, o, l, l], .xm2048),
    ([o, o, o, o, o, o, o, l, o, l, o, o], .xm2112),
    ([o, o, o, o, o, o, o, l, o, l, o, l], .xm2176),
    ([o, o, o, o, o, o, o, l, o, l, l, o], .xm2240),
    ([o, o, o, o, o, o, o, l, o, l, l, l], .xm2304),
    ([o, o, o, o, o, o, o, l, l, l, o, o], .xm2368),
    ([o, o, o, o, o, o, o, l, l, l, o, l], .xm2432),
    ([o, o, o, o, o, o, o, l, l, l, l, o], .xm2496),
    ([o, o, o, o, o, o, o, l, l, l, l, l], .xm2560)] : List (Bits × Instr)).all (fun r =>
    decode ⟨.black, r.1⟩ == .ok r.2) = true := by decide +kernel

/-- The 8-bit rows of spec/opcode_table.json, by their bits; BT13 has the bits of WT45 (log 23). -/
def tableRows : List (Nat × Instr) := [
  (53, .wt0), (2, .wt29), (3, .wt30), (26, .wt31), (27, .wt32), (18, .wt33), (19, .wt34), (20, .wt35),
  (21, .wt36), (22, .wt37), (23, .wt38), (40, .wt39), (41, .wt40), (42, .wt41), (43, .wt42), (44, .wt43),
  (45, .wt44), (4, .wt45), (5, .wt46), (10, .wt47), (11, .wt48), (82, .wt49), (83, .wt50), (84, .wt51),
  (85, .wt52), (36, .wt53), (37, .wt54), (88, .wt55), (89, .wt56), (90, .wt57), (91, .wt58), (74, .wt59),
  (75, .wt60), (50, .wt61), (51, .wt62), (52, .wt63), (7, .bt14), (54, .wm320), (55, .wm384), (100, .wm448),
  (101, .wm512), (104, .wm576), (103, .wm640)]

/-- R107: EOL. -/
theorem test_decode_eol : decode ⟨.mode, [o, o, o, o, o, o, o, o, o, o, o, l]⟩ = .ok .eol := by decide +kernel

/-- R110: INIT with its operands, most significant bit first: WIDTH 5, HEIGHT 7, BIT_ORDER 1, SINK 2, CAP 9. -/
theorem test_decode_init : decode ⟨.command, [o, o]
    ++ [o, o, o, o, o, o, o, o, o, o, o, o, o, l, o, l]
    ++ List.replicate 29 o ++ [l, l, l]
    ++ [o, o, o, o, o, o, o, l]
    ++ [o, o, o, o, o, o, l, o]
    ++ List.replicate 28 o ++ [l, o, o, l]⟩ = .ok (.init 5 7 1 2 9) := by decide +kernel

/-- R110: ADD_LINE with the bytes 3C 81, and without bytes. -/
theorem test_decode_addLine :
    decode ⟨.command, [o, l] ++ [o, o, l, l, l, l, o, o] ++ [l, o, o, o, o, o, o, l]⟩ = .ok (.addLine [0x3c, 0x81])
      ∧ decode ⟨.command, [o, l]⟩ = .ok (.addLine []) := by decide +kernel

/-- R110: GET_OUTPUT_SIZE and GET_ERROR. -/
theorem test_decode_queries : decode ⟨.command, [l, o]⟩ = .ok .getOutputSize
    ∧ decode ⟨.command, [l, l]⟩ = .ok .getError := by decide +kernel

/-- The micro-operations and the reset line, in the model's layout (log 3). -/
theorem test_decode_micro :
    decode ⟨.micro .run, l :: List.replicate 15 o ++ [l, o, l]⟩ = .ok (.run 5 .black)
      ∧ decode ⟨.micro .run, o :: List.replicate 18 l⟩ = .ok (.run (-1) .white)
      ∧ decode ⟨.micro .emit, [o, l, l]⟩ = .ok (.emit [o, l, l])
      ∧ decode ⟨.micro .pushbit, [l]⟩ = .ok (.pushbit true)
      ∧ decode ⟨.micro .writeByte, [o, o, l, l, l, l, o, o]⟩ = .ok (.writeByte 0x3c)
      ∧ decode ⟨.micro .extract, []⟩ = .ok .extract ∧ decode ⟨.micro .encodeLine, []⟩ = .ok .encodeLine
      ∧ decode ⟨.micro .pushSegment, []⟩ = .ok .pushSegment ∧ decode ⟨.micro .flushPartial, []⟩ = .ok .flushPartial
      ∧ decode ⟨.micro .eofb, []⟩ = .ok .eofb ∧ decode ⟨.micro .swap, []⟩ = .ok .swap
      ∧ decode ⟨.resetLine, []⟩ = .ok .reset := by decide +kernel

/-- R118, R110: words that stand for no operation. -/
theorem test_decode_refuses :
    decode ⟨.mode, [o, o, o, o, o, o, l]⟩ = .bad .noSuchCodeword ∧ decode ⟨.mode, [l, l]⟩ = .bad .trailingBits
      ∧ decode ⟨.command, [l]⟩ = .bad .truncatedOpcode ∧ decode ⟨.command, [o, o, l]⟩ = .bad .initOperandLength
      ∧ decode ⟨.command, [o, l, o]⟩ = .bad .raggedLine
      ∧ decode ⟨.micro .pushbit, []⟩ = .bad .microOperandLength := by decide +kernel

theorem test_tableRows_decode : tableRows.all (fun r => decodeTableWord 8 r.1 == some r.2) = true := by decide +kernel

/-- Both WT45 (R101) and BT13 (R102) have the bits 00000100; the white set is read first (log 23). -/
theorem test_tableRows_shared : decodeTableWord 8 4 = some .wt45 := by decide +kernel

/-- The word is fetched and run as the first operation after reset. -/
theorem test_withFetchWord : step (State.reset.withFetchWord 8 53) = exec .wt0 State.reset := by rfl

/-! ### One step on a small state -/

/-- The state of an answer. -/
def after : Out → Option State
  | .next t => some t
  | .fault _ => none
  | .refused _ => none

/-- An answer with a state is a next state. -/
theorem runs {x : Out} (h : (after x).isSome = true) : ∃ t, x = .next t := by
  cases x with
  | next t => exact ⟨t, rfl⟩
  | fault f => simp [after] at h
  | refused r => simp [after] at h

/-- A session with the FIXED sink, no line accepted. -/
def session (w : BitVec 16) (h cap : BitVec 32) : State :=
  { State.reset with
    cfg := { width := w, height := h, bitOrder := .msbFirst, sink := .fixed, cap := cap }
    stateReg := .initialized
    tb0 := [w.toNat] }

/-- A session with the STREAM sink, segments of two bytes, and the sink's answers. -/
def streaming (w : BitVec 16) (h : BitVec 32) (rs : List SinkReply) : State :=
  { State.reset with
    params := { maxTransitions := 1024, eofb := false, segSize := 2 }
    cfg := { width := w, height := h, bitOrder := .msbFirst, sink := .stream, cap := 0 }
    stateReg := .initialized
    tb0 := [w.toNat]
    sinkReplies := rs }

/-- A line of width 16 about to be coded: a reference and a current buffer. -/
def coding (ref cur : List Nat) (cap : BitVec 32) : State := { session 16 9 cap with tb0 := ref, tb1 := cur }

/-- 93 50 3C, the first three bytes of program T4. -/
def outT4 : Memory := [(0, 0x93), (1, 0x50), (2, 0x3c)]

/-- T4: the second line of the 64x2 image completes it: 93 50 3C 37. -/
theorem test_addLine_T4 :
    (after (exec (.addLine (List.replicate 8 255))
      { session 64 2 4 with stateReg := .encoding, rows := 1, acc := 0x80, nb := 1 })).map
      (fun t => (t.out, t.count, t.nb, t.stateReg, t.rc)) =
    some ([(0, 0x93), (1, 0x50), (2, 0x3c), (3, 0x37)], 4, 0, .complete, .success) := by decide +kernel

/-- T3: the first line of the identical lines. -/
theorem test_addLine_T3 :
    (after (exec (.addLine [0x3c]) (session 8 3 3))).map (fun t => (t.out, t.acc, t.nb, t.stateReg, t.ref)) =
    some ([(0, 0x2e)], 0xe0, 3, .encoding, [2, 6, 8]) := by decide +kernel

/-- V-S8, V-S9. -/
theorem test_init_width_bound :
    (after (exec (.init 1025 1 0 0 16) State.reset)).map (fun t => (t.rc, t.stateReg)) = some (.invalidParameter, .uninit)
      ∧ (after (exec (.init 1024 1 0 0 16) State.reset)).map (fun t => (t.rc, t.stateReg, t.ref)) =
        some (.success, .initialized, [1024]) := by decide +kernel

/-- V-S4 to V-S7. -/
theorem test_init_refused :
    ([(0, 1, 0, 0), (8, 0, 0, 0), (8, 1, 2, 0), (8, 1, 0, 2)] :
        List (BitVec 16 × BitVec 32 × BitVec 8 × BitVec 8)).all (fun p =>
      (after (exec (.init p.1 p.2.1 p.2.2.1 p.2.2.2 16) (session 8 3 3))).map (fun t => (t.rc, t.stateReg, t.count))
        == some (.invalidParameter, .uninit, 0)) = true := by decide +kernel

/-- V-S13: GET_ERROR in FAILED. -/
theorem test_getError_V_S13 :
    (after (exec .getError { session 8 1 0 with stateReg := .failed, err := .dataOverflow })).map (fun t => (t.rc, t.data)) =
    some (.success, 3) := by decide +kernel

/-- V-S1: GET_OUTPUT_SIZE after reset. -/
theorem test_getOutputSize_V_S1 :
    (after (exec .getOutputSize State.reset)).map (fun t => (t.rc, t.data)) = some (.success, 0) := by decide +kernel

/-- R227: reset. -/
theorem test_reset :
    (after (exec .reset { session 8 1 4 with count := 3, out := outT4 })).map (fun t => (t.stateReg, t.count, t.out)) =
    some (.uninit, 0, outT4) := by decide +kernel

/-- V-X4, V-X8, V-X9: the transition sequences of scanlines. -/
theorem test_extract_vectors :
    lineSeq .lsbFirst 8 [0x0c] = [2, 4, 8] ∧ lineSeq .msbFirst 10 [0x0f, 0x40] = [4, 8, 9, 10]
      ∧ lineSeq .msbFirst 10 [0x0f, 0x7f] = [4, 8, 9, 10] := by decide +kernel

/-- V-X19: EXTRACT writes the current buffer. -/
theorem test_extract_V_X19 :
    (after (exec .extract { session 16 4 4 with line := [0x08, 0x18] })).map (fun t => (t.tb1, t.tb0)) =
    some ([4, 5, 11, 13, 16], [16]) := by decide +kernel

/-- V-RL14, V-RL15, V-RL18, V-RL19, V-RL21, V-RL22. -/
theorem test_runCodes_vectors :
    runCodes 1791 .white = [.makeup .white 27, .term .white 63] ∧ runCodes 1792 .white = [.ext 28, .term .white 0]
      ∧ runCodes 2559 .white = [.ext 39, .term .white 63] ∧ runCodes 2560 .black = [.ext 40, .term .black 0]
      ∧ runCodes 2624 .white = [.ext 40, .makeup .white 1, .term .white 0]
      ∧ runCodes 5120 .white = [.ext 40, .ext 40, .term .white 0] := by decide +kernel

/-- V-RL17: the bits of a run of 2000 black pixels. -/
theorem test_runBits_V_RL17 : runBits 2000 .black =
    [o, o, o, o, o, o, o, l, o, o, l, o] ++ [o, o, o, o, o, l, o, l, l, l] := by decide +kernel

/-- V-M7, V-M14, V-M20, V-M23, V-M25: the bits of lines. -/
theorem test_line_vectors :
    lineBits [2, 4, 8] [8] 8 = [o, o, o, l, l]
      ∧ lineBits [2, 4, 8] [4, 8] 8 = [o, o, o, o, l, l, l]
      ∧ lineBits [4, 6, 16] [10, 12, 16] 16 = [o, o, o, l, o, o, l, l, o, l, l, l, l, l]
      ∧ lineBits [2, 4, 16] [4, 6, 16] 16 = [o, o, o, o, l, l, o, o, l, l, l, o, o, l, l, l]
      ∧ lineBits [1, 2, 16] [0, 16] 16 =
        [o, l, o, o, o, l, o, o, o, o, o, l, o, l, l, l, o, o, l, l, o, l, o, l] := by decide +kernel

/-- V-M15: the same through the machine, bit by bit: `001 10100 00011`, the first byte in OUT. -/
theorem test_encodeLine_V_M15 :
    (after (exec .encodeLine (coding [5, 9, 16] [9, 16] 4))).map (fun t => (t.out, t.acc, t.nb, t.a0)) =
    some ([(0, 0x34)], 0x18, 5, 16) := by decide +kernel

/-- V-M7: Pass moves a0 to b2 and keeps the colour. -/
theorem test_p : (after (exec .p { coding [2, 4, 16] [16] 4 with a0 := -1 })).map (fun t => (t.acc, t.nb, t.a0, t.colour)) =
    some (0x10, 4, 4, .white) := by decide +kernel

/-- V-M23, second step: H in BLACK, the black run first: `001 11 00111`. -/
theorem test_h :
    (after (exec .h { coding [2, 4, 16] [4, 6, 16] 4 with a0 := 4, colour := .black })).map
      (fun t => (t.out, t.acc, t.nb, t.a0, t.colour)) = some ([(0, 0x39)], 0xc0, 2, 16, .black) := by decide +kernel

/-- V-M10, first step: VR1. -/
theorem test_vr1 :
    (after (exec .vr1 { coding [3, 6, 16] [4, 5, 16] 4 with a0 := -1 })).map (fun t => (t.acc, t.nb, t.a0, t.colour)) =
    some (0x60, 3, 4, .black) := by decide +kernel

/-- R156: XM2560 enters the stream: `000000011111`. -/
theorem test_xm2560 :
    (after (exec .xm2560 (session 8 1 4))).map (fun t => (t.out, t.acc, t.nb)) = some ([(0, 0x01)], 0xf0, 4) := by
  decide +kernel

/-- R201: LSB_FIRST fills from bit 0. -/
theorem test_pushbit_lsb :
    (after (exec (.pushbit true)
      { session 8 1 4 with cfg := { (session 8 1 4).cfg with bitOrder := .lsbFirst }, acc := 0x01, nb := 2 })).map
      (fun t => (t.acc, t.nb)) = some (0x05, 3) := by decide +kernel

/-- V-B8 with CFG.CAP = 3: DATA_OVERFLOW, COUNT = 3, OUT = 93 50 3C. -/
theorem test_emit_overflow :
    (after (exec (.emit ([l, o, o, l, o, o, l, l, o, l, o, l] ++ [o, o, o, o, o, o, l, l, l, l]
      ++ [o, o, o, o, l, l, o, l, l, l])) (session 64 2 3))).map (fun t => (t.out, t.count, t.stateReg, t.err)) =
    some (outT4, 3, .failed, .dataOverflow) := by decide +kernel

/-- V-B5 with FLUSH_PARTIAL: `0000111` becomes 0E. -/
theorem test_flushPartial_V_B5 :
    (after (exec .flushPartial { session 8 1 4 with acc := 0x0e, nb := 7 })).map (fun t => (t.out, t.count, t.acc, t.nb)) =
    some ([(0, 0x0e)], 1, 0, 0) := by decide +kernel

/-- V-B9: EOFB after 93 50 3C 37 adds 00 10 01. -/
theorem test_eofb_V_B9 :
    (after (exec .eofb { session 64 2 7 with params := { maxTransitions := 1024, eofb := true, segSize := 1 }, count := 4 })).map
      (fun t => (t.out, t.count)) = some ([(4, 0x00), (5, 0x10), (6, 0x01)], 7) := by decide +kernel

/-- R204, R205: the byte that fills the segment pushes it. -/
theorem test_writeByte_segment :
    (after (exec (.writeByte 0x50) { streaming 8 1 [.ok] with stg := [0x93] })).map (fun t => (t.delivered, t.count, t.stg)) =
    some ([[0x93, 0x50]], 2, []) := by decide +kernel

/-- R255: a segment the sink refuses. -/
theorem test_pushSegment_fail :
    (after (exec .pushSegment { streaming 8 1 [.fail] with stg := [0x93] })).map
      (fun t => (t.delivered, t.count, t.stateReg, t.err, t.rc)) = some ([], 0, .failed, .ioError, .ioError) := by
  decide +kernel

/-- V-B1 to V-B7 of the pack function, both orders. -/
theorem test_pack_vectors :
    pack .msbFirst [] = [] ∧ pack .msbFirst [l] = [0x80] ∧ pack .lsbFirst [l] = [0x01]
      ∧ pack .msbFirst [o, o, l, o, l, l, l, l, l, l] = [0x2f, 0xc0]
      ∧ pack .lsbFirst [o, o, l, o, l, l, l, l, l, l] = [0xf4, 0x03] := by decide +kernel

/-- T2: the compressed image of one black pixel, in both orders. -/
theorem test_g4_T2 : g4 Config.defaultParams .msbFirst 1 [[0x80]] = [0x50]
    ∧ g4 Config.defaultParams .lsbFirst 1 [[0x01]] = [0x0a] := by decide +kernel

/-! ### Witnesses: the hypotheses of each statement are met -/

theorem witness_StepRunsDecodedOperation :
    ({ State.reset with host := [encode .getError] } : State).host = ⟨.command, [l, l]⟩ :: []
      ∧ decode ⟨.command, [l, l]⟩ = .ok .getError ∧ decode ⟨.command, [l]⟩ = .bad .truncatedOpcode
      ∧ State.reset.host = [] := by decide +kernel

/-- A session with the words that its host issues next. -/
def sessionWith (is : List Instr) : State := { session 8 3 3 with host := is.map encode }

/-- The invariant of a session with no line accepted, whatever words of a host wait. -/
theorem session_inv (is : List Instr) (h : ∀ w ∈ (sessionWith is).host, hostPort w.port = true) :
    SessionInv (sessionWith is) :=
  { core :=
      { params := (by decide +kernel : paramsWf (session 8 3 3).params = true)
        memory := (by decide +kernel : (session 8 3 3).out.wf = true)
        fill := (by decide +kernel : (session 8 3 3).cfg.sink = .fixed →
          (session 8 3 3).count.toNat ≤ (session 8 3 3).cfg.cap.toNat) }
    errNone := fun _ => rfl
    errCause := fun hf => nomatch hf
    uninitCount := fun _ => rfl
    session := fun _ =>
      { widthPos := (by decide +kernel : 1 ≤ (session 8 3 3).W)
        widthMax := (by decide +kernel : (session 8 3 3).W ≤ (session 8 3 3).params.maxTransitions)
        heightPos := (by decide +kernel : 1 ≤ (session 8 3 3).cfg.height.toNat)
        rowsLe := (by decide +kernel : (session 8 3 3).rows.toNat ≤ (session 8 3 3).cfg.height.toNat)
        completeIff := (by decide +kernel : (session 8 3 3).stateReg = .complete ↔
          (session 8 3 3).rows = (session 8 3 3).cfg.height)
        initializedIff := (by decide +kernel : (session 8 3 3).stateReg = .initialized ↔ (session 8 3 3).rows = 0)
        reference := (by decide +kernel : seqWf (session 8 3 3).W (session 8 3 3).ref = true)
        acc := (by decide +kernel : (session 8 3 3).accClean = true)
        staged := (by decide +kernel : (session 8 3 3).stg.length < (session 8 3 3).params.segSize)
        unstaged := fun _ => rfl
        flushed := fun hc => nomatch hc }
    streamCount := fun _ hs => nomatch hs
    hostOnly := h }

/-- The invariant of a block that waits for INIT. -/
theorem uninit_inv : SessionInv State.reset :=
  { core := { params := by decide +kernel, memory := by decide +kernel, fill := by decide +kernel }
    errNone := by decide +kernel
    errCause := by decide +kernel
    uninitCount := by decide +kernel
    streamCount := by decide +kernel
    session := fun h => nomatch h
    hostOnly := by decide +kernel }

/-- A session that has failed with DATA_OVERFLOW. -/
def failedSession : State := { session 8 3 0 with stateReg := .failed, err := .dataOverflow }

theorem failed_inv : SessionInv failedSession :=
  { core := { params := by decide +kernel, memory := by decide +kernel, fill := by decide +kernel }
    errNone := by decide +kernel
    errCause := by decide +kernel
    uninitCount := by decide +kernel
    streamCount := by decide +kernel
    session := fun h => nomatch h
    hostOnly := by decide +kernel }

/-- A session with the STREAM sink, two rows in, one segment delivered; an earlier session delivered one too. -/
def streamed : State :=
  { streaming 8 3 [.ok, .ok] with
    stateReg := .encoding
    rows := 2
    count := 2
    delivered := [[7], [0x2e, 0xff]]
    deliveredAtInit := 1
    stg := [0x80] }

theorem streamed_inv : SessionInv streamed :=
  { core := { params := by decide +kernel, memory := by decide +kernel, fill := by decide +kernel }
    errNone := by decide +kernel
    errCause := by decide +kernel
    uninitCount := by decide +kernel
    streamCount := by decide +kernel
    session := fun _ =>
      { widthPos := by decide +kernel, widthMax := by decide +kernel, heightPos := by decide +kernel, rowsLe := by decide +kernel
        completeIff := by decide +kernel, initializedIff := by decide +kernel, reference := by decide +kernel, acc := by decide +kernel
        staged := by decide +kernel, unstaged := by decide +kernel, flushed := by decide +kernel }
    hostOnly := by decide +kernel }

theorem witness_GetOutputSizeReturnsCount : SessionInv State.reset ∧ State.reset.stateReg = .uninit := ⟨uninit_inv, rfl⟩

theorem witness_GetErrorReturnsErr : SessionInv streamed ∧ streamed.stateReg ≠ .failed := ⟨streamed_inv, by decide +kernel⟩

/-- The least and the greatest legal width, height and selectors. -/
theorem witness_InitStartsSession :
    (1 ≤ (1 : BitVec 16).toNat ∧ (1 : BitVec 16).toNat ≤ State.reset.params.maxTransitions ∧ 1 ≤ (1 : BitVec 32).toNat
      ∧ (0 : BitVec 8).toNat ≤ 1)
    ∧ (1 ≤ (1024 : BitVec 16).toNat ∧ (1024 : BitVec 16).toNat ≤ State.reset.params.maxTransitions
      ∧ 1 ≤ (4294967295 : BitVec 32).toNat ∧ (1 : BitVec 8).toNat ≤ 1) := by decide +kernel

theorem witness_InitRefusesIllegalOperands :
    (∃ t, exec (.init 0 1 0 0 16) State.reset = .next t ∧ t.rc = .invalidParameter)
      ∧ (∃ t, exec (.init 1025 1 0 0 16) State.reset = .next t ∧ t.rc = .invalidParameter)
      ∧ (∃ t, exec (.init 8 0 0 0 16) State.reset = .next t ∧ t.rc = .invalidParameter)
      ∧ (∃ t, exec (.init 8 1 2 0 16) State.reset = .next t ∧ t.rc = .invalidParameter)
      ∧ (∃ t, exec (.init 8 1 0 2 16) State.reset = .next t ∧ t.rc = .invalidParameter)
      ∧ ∃ t, exec (.init 8 1 1 1 16) State.reset = .next t ∧ t.rc = .success :=
  ⟨⟨_, rfl, rfl⟩, ⟨_, rfl, rfl⟩, ⟨_, rfl, rfl⟩, ⟨_, rfl, rfl⟩, ⟨_, rfl, rfl⟩, ⟨_, rfl, rfl⟩⟩

theorem witness_AddLineNeedsSession : State.reset.stateReg = .uninit
    ∧ (∃ t, exec .getOutputSize State.reset = .next t) ∧ ∃ t, exec .getError State.reset = .next t :=
  ⟨rfl, ⟨_, rfl⟩, ⟨_, rfl⟩⟩

theorem witness_AddLineAfterLastRow : ({ session 8 1 1 with stateReg := .complete, rows := 1 } : State).stateReg = .complete :=
  rfl

theorem witness_AddLineInFailedReturnsStoredKind : SessionInv failedSession ∧ failedSession.stateReg = .failed
    ∧ ∃ t, exec (.addLine [0]) failedSession = .next t := ⟨failed_inv, rfl, ⟨_, rfl⟩⟩

/-- FIXED, the first line of T3, with the room it needs exactly; STREAM, a line that completes a segment. -/
theorem witness_AddLineEncodesScanline :
    (let s := session 8 3 1;
      s.stateReg = .initialized ∧ s.W ≤ s.params.maxTransitions ∧ ceil8 s.W ≤ [(0x3c : Byte)].length
        ∧ seqWf s.W s.ref = true ∧ s.accClean = true ∧ s.room (s.bitsOf [0x3c]) = true ∧ s.rows + 1 ≠ s.cfg.height)
    ∧ (let s := { streamed with rows := 1 };
      s.stateReg = .encoding ∧ s.W ≤ s.params.maxTransitions ∧ ceil8 s.W ≤ [(0x3c : Byte)].length
        ∧ seqWf s.W s.ref = true ∧ s.accClean = true ∧ s.room (s.bitsOf [0x3c]) = true ∧ s.rows + 1 ≠ s.cfg.height) := by
  decide +kernel

/-- The last line of T4 in a buffer of the exact size; the last line of a stream. -/
theorem witness_AddLineCompletesImage :
    (let s := { session 64 2 4 with stateReg := .encoding, rows := 1, acc := 0x80, nb := 1 };
     let line : List Byte := List.replicate 8 255;
      s.stateReg = .encoding ∧ s.W ≤ s.params.maxTransitions ∧ ceil8 s.W ≤ line.length
        ∧ seqWf s.W s.ref = true ∧ s.accClean = true ∧ s.room (s.bitsOf line) = true ∧ s.rows + 1 = s.cfg.height
        ∧ (s.lineDone line).room (eofbBits s.params) = true
        ∧ ((s.lineDone line).emitted (eofbBits s.params)).flushRoom = true)
    ∧ (let s := streaming 8 1 [.ok];
     let line : List Byte := [0x3c];
      s.stateReg = .initialized ∧ s.W ≤ s.params.maxTransitions ∧ ceil8 s.W ≤ line.length
        ∧ seqWf s.W s.ref = true ∧ s.accClean = true ∧ s.room (s.bitsOf line) = true ∧ s.rows + 1 = s.cfg.height
        ∧ (s.lineDone line).room (eofbBits s.params) = true
        ∧ ((s.lineDone line).emitted (eofbBits s.params)).flushRoom = true) := by
  decide +kernel

/-- What the statements about ADD_LINE suppose of a state and a line, but for the sink. -/
def lineMeets (s : State) (line : List Byte) : Bool :=
  (s.stateReg == .initialized || s.stateReg == .encoding) && decide (s.W ≤ s.params.maxTransitions)
    && decide (ceil8 s.W ≤ line.length) && seqWf s.W s.ref && s.accClean

/-- The fixed buffer has not the room for the bytes that the command hands over. -/
def overflows (s : State) (line : List Byte) : Bool :=
  lineMeets s line && s.cfg.sink == .fixed && s.resetIn == none && decide (s.count.toNat ≤ s.cfg.cap.toNat)
    && decide (s.cfg.cap.toNat < s.count.toNat + (s.commandBytes line).length)

/-- A last line of width 8 that needs only one byte, the pad byte; with EOFB it needs four. -/
def lastLine (eofb : Bool) (cap : BitVec 32) : State :=
  { session 8 1 cap with params := { maxTransitions := 1024, eofb := eofb, segSize := 1 } }

/-- CAP = 0; one byte less than a line needs; EOFB; the pad byte after EOFB; the pad byte alone. -/
theorem witness_AddLineOverflowKeepsWholeBytes :
    overflows (session 8 3 0) [0x3c] = true ∧ overflows (session 64 3 2) (List.replicate 8 255) = true
      ∧ overflows (lastLine true 1) [0] = true ∧ overflows (lastLine true 3) [0] = true
      ∧ (lastLine true 3).commandBytes [0] = [0x80, 0x08, 0x00, 0x80] ∧ overflows (lastLine false 0) [0] = true := by
  decide +kernel

/-- FIXED: the reset line before the last byte of a line, and before the pad byte after EOFB. STREAM: before the first
segment, and before the one that FLUSH_PARTIAL pushes. -/
theorem witness_AddLineCutByResetLine :
    (let s := { session 64 3 3 with resetIn := some 2 };
     let line : List Byte := List.replicate 8 255;
      lineMeets s line = true ∧ s.cfg.sink = .fixed ∧ 2 < (s.commandBytes line).length
        ∧ s.count.toNat + 2 < s.cfg.cap.toNat)
    ∧ (let s := { lastLine true 4 with resetIn := some 3 };
      lineMeets s [0] = true ∧ s.cfg.sink = .fixed ∧ 3 < (s.commandBytes [0]).length
        ∧ s.count.toNat + 3 < s.cfg.cap.toNat)
    ∧ (let s := { streaming 64 2 [.fail] with resetIn := some 0 };
     let line : List Byte := List.replicate 8 255;
      lineMeets s line = true ∧ s.cfg.sink = .stream ∧ s.stg.length < s.params.segSize
        ∧ 0 < (s.commandSegments line).length ∧ s.sinkReplies = List.replicate 0 .ok ++ [.fail]
        ∧ s.count.toNat + ((s.commandSegments line).take 0).flatten.length < 4294967296)
    ∧ (let s := { streaming 8 1 [.ok] with resetIn := some 0 };
      lineMeets s [0] = true ∧ s.cfg.sink = .stream ∧ s.stg.length < s.params.segSize
        ∧ s.commandSegments [0] = [[0x80]] ∧ s.sinkReplies = List.replicate 0 .ok ++ [.ok]
        ∧ s.count.toNat + ((s.commandSegments [0]).take 0).flatten.length < 4294967296) := by
  decide +kernel

/-- The third LINE of program T9: the sink answers OK to AD and FAIL to 1E. -/
def sessionT9 : State :=
  { streaming 16 4 [.ok, .fail] with
    params := { maxTransitions := 1024, eofb := false, segSize := 1 }
    stateReg := .encoding, rows := 2, count := 1, delivered := [[0x98]], tb0 := [3, 6, 16],
    acc := 0xa0, nb := 3 }

/-- T9: IO_ERROR with COUNT = 2, the sink holds 98 AD. -/
theorem test_addLine_T9 :
    (after (exec (.addLine [0x08, 0x18]) sessionT9)).map (fun t => (t.rc, t.stateReg, t.count, t.delivered)) =
    some (.ioError, .failed, 2, [[0x98], [0xad]]) := by decide +kernel

/-- T9, and a sink that refuses the segment of FLUSH_PARTIAL. -/
theorem witness_AddLineSinkFailureKeepsSegments :
    (let s := sessionT9;
     let line : List Byte := [0x08, 0x18];
      lineMeets s line = true ∧ s.cfg.sink = .stream ∧ s.stg.length < s.params.segSize ∧ s.resetIn = none
        ∧ s.commandSegments line = [[0xad], [0x1e]] ∧ s.sinkReplies = List.replicate 1 .ok ++ .fail :: []
        ∧ s.count.toNat + ((s.commandSegments line).take 1).flatten.length < 4294967296)
    ∧ (let s := streaming 8 1 [.fail];
      lineMeets s [0] = true ∧ s.cfg.sink = .stream ∧ s.stg.length < s.params.segSize ∧ s.resetIn = none
        ∧ s.commandSegments [0] = [[0x80]] ∧ s.sinkReplies = List.replicate 0 .ok ++ .fail :: []
        ∧ s.count.toNat + ((s.commandSegments [0]).take 0).flatten.length < 4294967296) := by
  decide +kernel

theorem witness_AddLineRefusesShortLine :
    let s := session 9 3 1;
    s.stateReg = .initialized ∧ s.W ≤ s.params.maxTransitions ∧ [(0x3c : Byte)].length < ceil8 s.W := by
  decide +kernel

/-- V-X8 and V-X9: lines that differ in their pad bits only. -/
theorem witness_AddLineIgnoresPadBits :
    let s := session 10 2 3;
    s.stateReg = .initialized ∧ ceil8 s.W ≤ ([0x0f, 0x40] : List Byte).length
      ∧ ceil8 s.W ≤ ([0x0f, 0x7f] : List Byte).length
      ∧ (∀ x, x < s.W → pix s.cfg.bitOrder [0x0f, 0x40] x = pix s.cfg.bitOrder [0x0f, 0x7f] x)
      ∧ ∃ t, exec (.addLine [0x0f, 0x40]) s = .next t :=
  ⟨by decide +kernel, by decide +kernel, by decide +kernel, by decide +kernel, runs (by decide +kernel)⟩

theorem witness_SwapExchangesRoles : ∃ t, exec .swap (session 8 3 3) = .next t := ⟨_, rfl⟩

/-- Each of the three cases of EXTRACT, at the bounds of WIDTH and of the length. -/
theorem witness_ExtractWritesCurrentBuffer :
    (let s := { session 1024 1 1 with line := List.replicate 128 0 };
      s.W ≤ s.params.maxTransitions ∧ ceil8 s.W ≤ s.line.length)
    ∧ (session 1025 1 1).params.maxTransitions < (session 1025 1 1).W
    ∧ (let s := { session 1024 1 1 with line := List.replicate 127 0 };
      s.W ≤ s.params.maxTransitions ∧ s.line.length < ceil8 s.W) := by decide +kernel

/-- Entries of both parities below WIDTH, and pixels 0 and W - 1. -/
theorem witness_ExtractedSequenceIsWellFormed :
    let pixel := pix .msbFirst [0x3d];
    (extractSeq pixel 8)[0]? = some 2 ∧ (extractSeq pixel 8)[1]? = some 6 ∧ 6 < 8 ∧ 0 < 8 ∧ 7 < 8 := by decide +kernel

theorem witness_TransitionCountIsBounded : 1024 ≤ Config.defaultParams.maxTransitions := by decide +kernel

theorem witness_PixelFollowsBitOrder :
    ([0x3d, 0x80] : List Byte)[7 / 8]? = some 0x3d ∧ ([0x3d, 0x80] : List Byte)[8 / 8]? = some 0x80 := by decide +kernel

theorem witness_RunReturnsCodewords : (0 : Int) ≤ 0 ∧ (-1 : Int) < 0 := by decide +kernel

/-- The bounds of the four ranges of a run length. -/
theorem witness_RunDecompositionIsGreedy :
    2560 ≤ 2560 ∧ (1792 ≤ 1792 ∧ 1792 < 2560) ∧ (1792 ≤ 2559 ∧ 2559 < 2560) ∧ (64 ≤ 64 ∧ 64 < 1792)
      ∧ (64 ≤ 1791 ∧ 1791 < 1792) ∧ 0 < 64 ∧ 63 < 64 := by decide +kernel

theorem witness_CodeTablesAreComplete :
    (⟨.p, 4, 1⟩ : CodeRow) ∈ modeSet ++ whiteSet ++ blackSet
      ∧ (⟨.xm2560, 12, 31⟩ : CodeRow) ∈ modeSet ++ whiteSet ++ blackSet := by decide +kernel

theorem witness_PushbitPlacesBit :
    ({ session 8 1 4 with nb := 6 } : State).nb ≠ 7 ∧ ({ session 8 1 4 with nb := 7 } : State).nb = 7 := by decide +kernel

/-- COUNT one below CAP, at CAP, one above. -/
theorem witness_WriteByteStoresInFixedBuffer :
    (let s := { session 8 1 4 with count := 3 };
      s.cfg.sink = .fixed ∧ s.resetIn = none ∧ s.count.toNat < s.cfg.cap.toNat)
    ∧ (let s := { session 8 1 4 with count := 4 };
      s.cfg.sink = .fixed ∧ s.count = s.cfg.cap)
    ∧ (let s := { session 8 1 4 with count := 5 };
      s.cfg.sink = .fixed ∧ s.cfg.cap.toNat < s.count.toNat) := by decide +kernel

/-- STGN two below SEG_SIZE, one below, and at it. -/
theorem witness_WriteByteStagesForStream :
    (let s := streaming 8 1 [];
      s.cfg.sink = .stream ∧ s.stg.length + 1 < s.params.segSize)
    ∧ (let s := { streaming 8 1 [] with stg := [1] };
      s.cfg.sink = .stream ∧ s.stg.length + 1 = s.params.segSize)
    ∧ (let s := { streaming 8 1 [] with stg := [1, 2] };
      s.cfg.sink = .stream ∧ s.params.segSize ≤ s.stg.length) := by decide +kernel

/-- COUNT reaches 2^32 - 1 exactly. -/
theorem witness_PushSegmentDelivers :
    let s := { streaming 8 1 [.ok] with stg := [1], count := 4294967294 };
    s.cfg.sink = .stream ∧ s.stg ≠ [] ∧ s.resetIn = none ∧ s.sinkReplies = .ok :: []
      ∧ s.count.toNat + s.stg.length < 4294967296 := by decide +kernel

theorem witness_PushSegmentFailureIsIoError :
    let s := { streaming 8 1 [.fail] with stg := [1] };
    s.cfg.sink = .stream ∧ s.stg ≠ [] ∧ s.resetIn = none ∧ s.sinkReplies = .fail :: [] := by decide +kernel

theorem witness_PushSegmentStops :
    (let s := { streaming 8 1 [.silent] with stg := [1] };
      s.cfg.sink = .stream ∧ s.stg ≠ [] ∧ s.resetIn = none ∧ s.sinkReplies = .silent :: [])
    ∧ (let s := { streaming 8 1 [.ok] with stg := [1], count := 4294967295 };
      s.cfg.sink = .stream ∧ s.stg ≠ [] ∧ s.resetIn = none ∧ s.sinkReplies = .ok :: []
        ∧ 4294967296 ≤ s.count.toNat + s.stg.length)
    ∧ (session 8 1 1).cfg.sink = .fixed ∧ (streaming 8 1 [.ok]).stg = [] := by decide +kernel

/-- FIXED with exactly the room; STREAM with the segment filled. -/
theorem witness_EmitPacksCodeword :
    (let s := { session 8 1 1 with acc := 0xe0, nb := 3 };
      s.accClean = true ∧ s.room [l, l, l, l, l] = true)
    ∧ (let s := { streaming 8 1 [.ok] with stg := [1], acc := 0xe0, nb := 3 };
      s.accClean = true ∧ s.room [l, l, l, l, l] = true) := by decide +kernel

theorem witness_CodewordsEnterTheStream :
    Instr.codeword .xm2560 = some (.run (.ext 40)) ∧ (∀ m, Codeword.run (.ext 40) ≠ .mode m)
      ∧ (session 8 1 1).accClean = true ∧ (session 8 1 1).room (Codeword.run (.ext 40)).bits = true :=
  ⟨rfl, by simp, by decide +kernel, by decide +kernel⟩

theorem witness_EmitOverflowIsByteExact :
    let s := { session 8 1 1 with acc := 0xe0, nb := 3 };
    let cw := List.replicate 13 l;
    s.accClean = true ∧ s.cfg.sink = .fixed ∧ s.resetIn = none ∧ s.count.toNat ≤ s.cfg.cap.toNat
      ∧ s.cfg.cap.toNat < s.count.toNat + s.bytesDone cw := by decide +kernel

/-- Bits pending with exactly the room; nothing pending; a staged byte and pending bits. -/
theorem witness_FlushPartialEndsTheStream :
    (let s := { session 8 1 1 with acc := 0xe0, nb := 3 };
      s.accClean = true ∧ s.flushRoom = true ∧ s.nb ≠ 0)
    ∧ ((session 8 1 0).accClean = true ∧ (session 8 1 0).flushRoom = true)
    ∧ (let s := { streaming 8 1 [.ok] with stg := [1], acc := 0xe0, nb := 3 };
      s.accClean = true ∧ s.flushRoom = true ∧ s.cfg.sink = .stream) := by decide +kernel

theorem witness_EofbFollowsItsParameter :
    (let s := { session 8 1 3 with params := { maxTransitions := 1024, eofb := true, segSize := 1 } };
      s.params.eofb = true ∧ s.accClean = true ∧ s.room (eolRow.bits ++ eolRow.bits) = true)
    ∧ (session 8 1 3).params.eofb = false := by decide +kernel

theorem witness_PackPlacesStreamBits : [o, l][1]? = some true := by decide +kernel

theorem witness_PassStepMovesToB2 :
    let s := { coding [2, 4, 16] [16] 0 with a0 := -1 };
    s.accClean = true ∧ s.room [o, o, o, l] = true := by decide +kernel

theorem witness_VerticalStepMovesToA1 :
    (Instr.vl3, [o, o, o, o, o, l, o]) ∈ [(Instr.v0, [l]), (.vr1, [o, l, l]), (.vr2, [o, o, o, o, l, l]),
      (.vr3, [o, o, o, o, o, l, l]), (.vl1, [o, l, o]), (.vl2, [o, o, o, o, l, o]), (.vl3, [o, o, o, o, o, l, o])]
    ∧ (coding [8, 16] [5, 16] 0).accClean = true
    ∧ (coding [8, 16] [5, 16] 0).room [o, o, o, o, o, l, o] = true := by decide +kernel

/-- V-M15: runs of 9 and 7. -/
theorem witness_HorizontalStepCodesTwoRuns :
    let s := { coding [5, 9, 16] [9, 16] 1 with a0 := -1 };
    let cw := [o, o, l] ++ (runCodes 9 s.colour).flatMap RunCode.bits
      ++ (runCodes 7 (if s.colour = .white then .black else .white)).flatMap RunCode.bits;
    ((9 : Nat) : Int) = (s.a1 : Int) - max s.a0 0 ∧ s.a2 = s.a1 + 7 ∧ s.accClean = true ∧ s.room cw = true := by
  decide +kernel

/-- The first and the last a0 of a line. -/
theorem witness_PositionsKeepTheirOrder :
    seqWf 16 [5, 9, 16] = true ∧ seqWf 16 [9, 16] = true ∧ (-1 : Int) ≤ -1 ∧ (-1 : Int) < (16 : Nat)
      ∧ (-1 : Int) ≤ 15 ∧ (15 : Int) < (16 : Nat) := by decide +kernel

theorem witness_LineCodingTerminatesInBounds :
    seqWf 2559 [5, 9, 2559] = true ∧ seqWf 2559 [2559] = true ∧ (-1 : Int) ≤ -1 ∧ (-1 : Int) < (2559 : Nat)
      ∧ 2559 ≤ 2559 := by decide +kernel

theorem witness_IdenticalLineIsAllVertical : seqWf 8 [2, 6, 8] = true := by decide +kernel

/-- Two equal lines; the bits of each are followed by the same further bits. -/
theorem witness_LineCodingLosesNothing : seqWf 8 [8] = true ∧ seqWf 8 [2, 6, 8] = true
    ∧ lineSteps [8] [2, 6, 8] 8 = lineSteps [8] [2, 6, 8] 8
    ∧ lineBits [8] [2, 6, 8] 8 ++ [l, o] = lineBits [8] [2, 6, 8] 8 ++ [l, o] := by decide +kernel

theorem witness_EncodeLineEmitsLineCodes :
    let s := coding [5, 9, 16] [9, 16] 1;
    seqWf s.W s.ref = true ∧ seqWf s.W s.cur = true ∧ s.accClean = true
      ∧ s.room (lineBits s.ref s.cur s.W) = true := by decide +kernel

/-- The image of program T3. -/
def imageT3 : List (List Byte) := [[0x3c], [0x3c], [0x3c]]

/-- T3 in a buffer of the exact size, 3 bytes. -/
theorem witness_ImageIsEncodedToG4 :
    initLegal State.reset.params 8 3 0 0 = true ∧ imageT3.length = (3 : BitVec 32).toNat
      ∧ (∀ x ∈ imageT3, x.length = ceil8 (8 : BitVec 16).toNat) ∧ State.reset.resetIn = none
      ∧ (g4 State.reset.params (bitOrderOf 0) (8 : BitVec 16).toNat imageT3).length ≤ (3 : BitVec 32).toNat
      ∧ 3 ≤ imageT3.length := by decide +kernel

theorem witness_ImageIsStreamedToG4 :
    let s := streaming 0 0 [.ok, .ok, .ok];
    initLegal s.params 8 3 1 1 = true ∧ 1 ≤ s.params.segSize ∧ imageT3.length = (3 : BitVec 32).toNat
      ∧ (∀ x ∈ imageT3, x.length = ceil8 (8 : BitVec 16).toNat) ∧ s.resetIn = none
      ∧ s.sinkReplies = List.replicate 3 .ok
      ∧ (g4 s.params (bitOrderOf 1) (8 : BitVec 16).toNat imageT3).length ≤ 3
      ∧ (g4 s.params (bitOrderOf 1) (8 : BitVec 16).toNat imageT3).length < 4294967296 := by decide +kernel

/-- T3 in a buffer one byte short, and with CAP = 0. -/
theorem witness_SmallBufferHoldsPrefixOfG4 :
    initLegal State.reset.params 8 3 0 0 = true ∧ imageT3.length = (3 : BitVec 32).toNat
      ∧ (∀ x ∈ imageT3, x.length = ceil8 (8 : BitVec 16).toNat) ∧ State.reset.resetIn = none
      ∧ (2 : BitVec 32).toNat < (g4 State.reset.params (bitOrderOf 0) (8 : BitVec 16).toNat imageT3).length
      ∧ (0 : BitVec 32).toNat < (g4 State.reset.params (bitOrderOf 0) (8 : BitVec 16).toNat imageT3).length := by
  decide +kernel

theorem witness_DecodeInvertsEncode : (Instr.run (-131072) .black).wellFormed = true ∧ (Instr.addLine []).wellFormed = true
    ∧ (Instr.init 0 0 255 255 0).wellFormed = true := by decide +kernel

theorem witness_ReaderFindsCodewordBoundaries :
    modeSet ∈ [modeSet, whiteSet, blackSet] ∧ (⟨.p, 4, 1⟩ : CodeRow) ∈ modeSet := by decide +kernel

/-- A line, a query and a reset, each the next word of a session. -/
theorem witness_SessionInvariantIsKept :
    (SessionInv (sessionWith [.addLine [0x3c]]) ∧ ∃ t, step (sessionWith [.addLine [0x3c]]) = .next t)
    ∧ (SessionInv (sessionWith [.getError]) ∧ ∃ t, step (sessionWith [.getError]) = .next t)
    ∧ (SessionInv (sessionWith [.reset]) ∧ ∃ t, step (sessionWith [.reset]) = .next t) :=
  ⟨⟨session_inv _ (by decide +kernel), runs (by decide +kernel)⟩,
    ⟨session_inv _ (by decide +kernel), runs (by decide +kernel)⟩,
    ⟨session_inv _ (by decide +kernel), runs (by decide +kernel)⟩⟩

theorem witness_CoreInvariantIsKeptByAll : CoreInv (sessionWith []) ∧ ∃ t, exec (.writeByte 7) (sessionWith []) = .next t :=
  ⟨(session_inv [] (by decide +kernel)).core, runs (by decide +kernel)⟩

theorem witness_CountNeverFalls : isRestart (.addLine [0x3c]) = false ∧ (session 8 3 3).resetIn = none
    ∧ ∃ t, exec (.addLine [0x3c]) (session 8 3 3) = .next t := ⟨rfl, rfl, runs (by decide +kernel)⟩

/-- An index below COUNT, an index at the new COUNT, and a restart. -/
theorem witness_OutputBytesAreFinal :
    (let s := { session 8 3 4 with count := 3, out := outT4 };
      isRestart (.writeByte 7) = false ∧ s.resetIn = none ∧ 2 < s.count.toNat
        ∧ ∃ t, exec (.writeByte 7) s = .next t ∧ t.count.toNat ≤ 4)
    ∧ isRestart .reset = true ∧ ∃ t, exec .reset State.reset = .next t :=
  ⟨⟨rfl, rfl, by decide +kernel, _, rfl, by decide +kernel⟩, rfl, ⟨_, rfl⟩⟩

theorem witness_DeliveredStreamOnlyGrows :
    (isRestart .pushSegment = false ∧ streamed.resetIn = none ∧ streamed.cfg.sink = .stream
      ∧ ∃ t, exec .pushSegment streamed = .next t)
      ∧ (session 8 3 3).cfg.sink = .fixed ∧ ∃ t, exec (.addLine [0x3c]) (session 8 3 3) = .next t :=
  ⟨⟨rfl, rfl, rfl, runs (by decide +kernel)⟩, rfl, runs (by decide +kernel)⟩

/-- A line that is not the last, the last line, a line that fails, a line that a reset cuts, and a refused INIT; under the
session invariant a FIXED session and a STREAM session whose sink answers OK. -/
theorem witness_HostOperationsMoveStateAsListed :
    (isHostOp (.addLine [0x3c]) = true ∧ (∃ t, exec (.addLine [0x3c]) (session 8 3 3) = .next t)
      ∧ (∃ t, exec (.addLine [0x3c]) (session 8 1 3) = .next t) ∧ (∃ t, exec (.addLine [0x3c]) (session 8 1 0) = .next t)
      ∧ ∃ t, exec (.addLine [0x3c]) { session 8 1 3 with resetIn := some 0 } = .next t)
    ∧ (isHostOp (.init 0 0 0 0 0) = true ∧ ∃ t, exec (.init 0 0 0 0 0) State.reset = .next t)
    ∧ (SessionInv (sessionWith []) ∧ (sessionWith []).stateReg = .initialized ∧ (sessionWith []).resetIn = none
      ∧ ∃ t, exec (.addLine [0x3c]) (sessionWith []) = .next t)
    ∧ (SessionInv streamed ∧ streamed.stateReg = .encoding ∧ streamed.resetIn = none
      ∧ ∃ t, exec (.addLine [0x3c]) streamed = .next t) :=
  ⟨⟨rfl, runs (by decide +kernel), runs (by decide +kernel), runs (by decide +kernel), runs (by decide +kernel)⟩,
    ⟨rfl, runs (by decide +kernel)⟩,
    ⟨session_inv [] (by decide +kernel), rfl, rfl, runs (by decide +kernel)⟩,
    ⟨streamed_inv, rfl, rfl, runs (by decide +kernel)⟩⟩

end Sys2Proof.Tests
end

section
/-! PROOFS. What an operation can do to the state, said once: each operation but INIT and RESET is a course of elementary
moves, and ends there, in a raise (R258) or in a hardware reset (R227). Claims about every operation are inductions over
the moves. -/

namespace Sys2Proof.Machine

/-! ### Elementary moves -/

/-- The two states agree but for the registers that stay inside the block (10_state.md R20), LINE, and the result. -/
structure WorkOnly (s t : State) : Prop where
  params : t.params = s.params
  cfg : t.cfg = s.cfg
  err : t.err = s.err
  count : t.count = s.count
  out : t.out = s.out
  delivered : t.delivered = s.delivered
  deliveredAtInit : t.deliveredAtInit = s.deliveredAtInit
  host : t.host = s.host
  sinkReplies : t.sinkReplies = s.sinkReplies
  resetIn : t.resetIn = s.resetIn
  freeCount : t.freeCount = s.freeCount

/-- The elementary changes of state that operations are made of, but for raises, reset and INIT. -/
inductive Move : State → State → Prop
  /-- A register inside the block, LINE or the result is written. -/
  | work {s t : State} (h : WorkOnly s t) : Move s t
  /-- The reset line comes one output operation nearer (R227). -/
  | tick {s : State} (n : Nat) (h : s.resetIn = some (n + 1)) : Move s { s with resetIn := some n }
  /-- A byte is stored in OUT below CFG.CAP and counted (R203). -/
  | store {s : State} (v : Byte) (sink : s.cfg.sink = .fixed) (room : s.count.toNat < s.cfg.cap.toNat) :
      Move s { s with out := memWrite s.out s.count.toNat v, count := s.count + 1 }
  /-- The sink answers the staged segment with OK; it is delivered and counted (R63, R205). -/
  | push {s : State} (sink : s.cfg.sink = .stream) (staged : s.stg ≠ []) (reply : nextReply s = .ok)
      (fits : s.count.toNat + s.stg.length < 4294967296) :
      Move s { takeReply s with
        delivered := s.delivered ++ [s.stg], count := s.count + BitVec.ofNat 32 s.stg.length, stg := [] }
  /-- The sink answers with FAIL (R255). -/
  | failedPush {s : State} (sink : s.cfg.sink = .stream) (reply : nextReply s = .fail) : Move s (takeReply s)

/-- A course of elementary moves. -/
abbrev Moves : State → State → Prop := Relation.ReflTransGen Move

theorem WorkOnly.moves {s t : State} (h : WorkOnly s t) : Moves s t := .single (.work h)

/-- How an operation that is started in `s` goes on: by moves up to where it leaves off, and it is cut only where the
reset line is due. -/
def Res.MovesFrom (s : State) : Res → Prop
  | .ok t => Moves s t
  | .raised _ t => Moves s t
  | .cut t => Moves s t ∧ t.resetIn = some 0
  | .stop _ => True
  | .refuse _ => True

theorem Res.MovesFrom.after {s u : State} {r : Res} (h : Moves s u) (hr : r.MovesFrom u) : r.MovesFrom s := by
  cases r with
  | ok t => exact Relation.ReflTransGen.trans h hr
  | raised e t => exact Relation.ReflTransGen.trans h hr
  | cut t => exact ⟨h.trans hr.1, hr.2⟩
  | stop f => trivial
  | refuse x => trivial

theorem Res.MovesFrom.andThen {s : State} {r : Res} {k : State → Res} (hr : r.MovesFrom s)
    (hk : ∀ u, (k u).MovesFrom u) : (r.andThen k).MovesFrom s := by
  cases r with
  | ok u => exact (hk u).after hr
  | raised e u => exact hr
  | cut u => exact hr
  | stop f => trivial
  | refuse x => trivial

/-! ### The output port and the packer move -/

/-- What runs after the reset line has been looked at finds a state that differs in that line only. -/
theorem outputTick_andThen_movesFrom {s : State} {k : State → Res}
    (hk : ∀ r, (k { s with resetIn := r }).MovesFrom { s with resetIn := r }) :
    ((outputTick s).andThen k).MovesFrom s := by
  obtain ⟨-, e⟩ | ⟨h0, e⟩ | ⟨n, hn, e⟩ := outputTick_cases s <;> rw [e]
  · exact hk s.resetIn
  · exact ⟨.refl, h0⟩
  · exact (hk (some n)).after (.single (.tick n hn))

theorem sinkPush_movesFrom {s : State} (sink : s.cfg.sink = .stream) (staged : s.stg ≠ []) :
    (sinkPush s).MovesFrom s := by
  obtain ⟨hr, hc, e⟩ | ⟨-, -, e⟩ | ⟨hr, e⟩ | ⟨-, e⟩ := sinkPush_cases s <;> rw [e]
  · exact .single (.push sink staged hr hc)
  · trivial
  · exact .single (.failedPush sink hr)
  · trivial

theorem pushSegment_movesFrom (s : State) : (pushSegment s).MovesFrom s := by
  obtain ⟨sink, staged, e⟩ | ⟨-, e⟩ := pushSegment_cases s <;> rw [e]
  · exact outputTick_andThen_movesFrom fun _ => sinkPush_movesFrom sink staged
  · trivial

theorem writeByteFixed_movesFrom (v : Byte) {s : State} (sink : s.cfg.sink = .fixed) :
    (writeByteFixed v s).MovesFrom s := by
  obtain ⟨-, e⟩ | ⟨room, e⟩ | ⟨-, e⟩ := writeByteFixed_cases v s <;> rw [e]
  · exact .refl
  · exact outputTick_andThen_movesFrom fun _ => .single (.store v sink room)
  · trivial

theorem writeByteStream_movesFrom (v : Byte) (s : State) : (writeByteStream v s).MovesFrom s := by
  have staged : WorkOnly s { s with stg := s.stg ++ [v] } := by constructor <;> rfl
  obtain ⟨-, e⟩ | ⟨-, e⟩ | ⟨-, e⟩ := writeByteStream_cases v s <;> rw [e]
  · exact staged.moves
  · exact (pushSegment_movesFrom _).after staged.moves
  · trivial

theorem writeByte_movesFrom (v : Byte) (s : State) : (writeByte v s).MovesFrom s := by
  obtain ⟨sink, e⟩ | ⟨-, e⟩ := writeByte_cases v s <;> rw [e]
  · exact writeByteFixed_movesFrom v sink
  · exact writeByteStream_movesFrom v s

/-- ACC and NB are registers inside the block. -/
theorem workOnly_accNb (s : State) (acc : BitVec 8) (nb : BitVec 3) : WorkOnly s { s with acc := acc, nb := nb } := by
  constructor <;> rfl

theorem pushBit_movesFrom (b : Bool) (s : State) : (pushBit b s).MovesFrom s := by
  obtain ⟨-, e⟩ | ⟨-, e⟩ := pushBit_cases b s <;> rw [e]
  · exact (workOnly_accNb s _ _).moves
  · exact (writeByte_movesFrom _ _).after (workOnly_accNb s 0 0).moves

theorem emitBits_movesFrom (bs : Bits) (s : State) : (emitBits bs s).MovesFrom s := by
  induction bs generalizing s with
  | nil => exact .refl
  | cons b bs ih => exact (pushBit_movesFrom b s).andThen ih

theorem emitRun_movesFrom (n : Int) (c : Colour) (s : State) : (emitRun n c s).MovesFrom s := by
  by_cases h : n < 0
  · rw [emitRun_of_neg h]
    exact .refl
  · rw [emitRun_of_nonneg (by omega)]
    exact emitBits_movesFrom _ s

theorem flushPartial_movesFrom (s : State) : (flushPartial s).MovesFrom s := by
  refine Res.MovesFrom.andThen ?_ fun u => ?_
  · split
    · exact .refl
    · exact (writeByte_movesFrom _ _).after (workOnly_accNb s 0 0).moves
  · split
    · exact pushSegment_movesFrom u
    · exact .refl

theorem emitEofb_movesFrom (s : State) : (emitEofb s).MovesFrom s := by
  unfold emitEofb
  split
  · exact (emitBits_movesFrom _ s).andThen (emitBits_movesFrom _)
  · exact .refl

/-! ### Lines move -/

theorem extractLine_movesFrom (s : State) : (extractLine s).MovesFrom s := by
  obtain ⟨-, e⟩ | ⟨-, -, e⟩ | ⟨-, -, e⟩ := extractLine_cases s <;> rw [e]
  · exact .refl
  · trivial
  · exact WorkOnly.moves (by constructor <;> simp)

/-- A0 and COLOR are registers inside the block. -/
theorem workOnly_a0Colour (s : State) (a0 : Int) (c : Colour) : WorkOnly s { s with a0 := a0, colour := c } := by
  constructor <;> rfl

/-- The coding step of a mode (R176 to R184). -/
def modeStep : Mode → State → Res
  | .pass => passStep
  | .horizontal => horizontalStep
  | m => verticalStep m

/-- ENCODE_LINE takes the coding step of the mode that it selects (R171). -/
theorem codingStep_eq_modeStep (s : State) : codingStep s = modeStep (selectMode s.a1 s.b1 s.b2) s := by
  unfold codingStep
  cases selectMode s.a1 s.b1 s.b2 <;> rfl

theorem passStep_movesFrom (s : State) : (passStep s).MovesFrom s :=
  (emitBits_movesFrom _ s).andThen fun t => (workOnly_a0Colour t _ t.colour).moves

theorem verticalStep_movesFrom (m : Mode) (s : State) : (verticalStep m s).MovesFrom s :=
  (emitBits_movesFrom _ s).andThen fun t => (workOnly_a0Colour t _ _).moves

theorem horizontalStep_movesFrom (s : State) : (horizontalStep s).MovesFrom s :=
  (emitBits_movesFrom _ s).andThen fun t => (emitRun_movesFrom _ _ t).andThen fun t =>
    (emitRun_movesFrom _ _ t).andThen fun t => (workOnly_a0Colour t _ t.colour).moves

theorem modeStep_movesFrom (m : Mode) (s : State) : (modeStep m s).MovesFrom s := by
  cases m with
  | pass => exact passStep_movesFrom s
  | horizontal => exact horizontalStep_movesFrom s
  | _ => exact verticalStep_movesFrom _ s

theorem encodeLoop_movesFrom (fuel : Nat) (s : State) : (encodeLoop fuel s).MovesFrom s := by
  induction fuel generalizing s with
  | zero =>
    unfold encodeLoop
    split
    · trivial
    · exact .refl
  | succ fuel ih =>
    unfold encodeLoop
    split
    · rw [codingStep_eq_modeStep]
      exact (modeStep_movesFrom _ s).andThen ih
    · exact .refl

theorem encodeLine_movesFrom (s : State) : (encodeLine s).MovesFrom s :=
  (encodeLoop_movesFrom _ _).after (workOnly_a0Colour s _ _).moves

theorem finishRow_movesFrom (s : State) : (finishRow s).MovesFrom s := by
  unfold finishRow
  split
  · exact (emitEofb_movesFrom s).andThen fun t => (flushPartial_movesFrom t).andThen fun u =>
      WorkOnly.moves (by constructor <;> rfl)
  · exact .refl

theorem addLineBody_movesFrom (line : List Byte) (s : State) : (addLineBody line s).MovesFrom s := by
  have accepted : WorkOnly s { s with stateReg := .encoding, line := line } := by constructor <;> rfl
  have swapped (u : State) : WorkOnly u { swapBuffers u with rows := u.rows + 1 } := by constructor <;> rfl
  exact ((extractLine_movesFrom _).after accepted.moves).andThen fun t => (encodeLine_movesFrom t).andThen fun u =>
    (finishRow_movesFrom _).after (swapped u).moves

/-! ### How an operation ends -/

/-- Where an operation that is started in `s` ends: where its moves lead, after a raise there (R258), or after a hardware
reset there (R227), which only a reset line that was to be asserted brings about. -/
inductive Ended (s : State) : State → Prop
  | done {t : State} (moves : Moves s t) : Ended s t
  | raised {u : State} (e : ErrKind) (moves : Moves s u) : Ended s (takeError e u)
  | cut {u : State} (moves : Moves s u) (due : u.resetIn = some 0) : Ended s (hardReset u)

theorem Res.MovesFrom.ended {s t : State} {r : Res} (hr : r.MovesFrom s) (h : settle r = .next t) : Ended s t := by
  obtain rfl | ⟨e, u, rfl, rfl⟩ | ⟨u, rfl, rfl⟩ := settle_next_iff.1 h
  · exact .done hr
  · exact .raised e hr
  · exact .cut hr.1 hr.2

theorem workOnly_answer (s : State) (rc : ErrKind) (data : BitVec 32) : WorkOnly s (s.answer rc data) := by
  constructor <;> rfl

theorem ended_of_answer {s t : State} {rc : ErrKind} {data : BitVec 32}
    (h : Host.Outcome.next (s.answer rc data) = (.next t : Out)) : Ended s t := by
  cases h
  exact .done (workOnly_answer s rc data).moves

theorem execAddLine_ended {line : List Byte} {s t : State} (h : execAddLine line s = .next t) : Ended s t := by
  have accepted : ((addLineBody line s).andThen fun u => .ok (u.answer .success 0)).MovesFrom s :=
    (addLineBody_movesFrom line s).andThen fun u => (workOnly_answer u .success 0).moves
  unfold execAddLine at h
  split at h
  · exact ended_of_answer h
  · exact ended_of_answer h
  · exact ended_of_answer h
  · exact accepted.ended h
  · exact accepted.ended h

theorem execRun_ended {n : Int} {c : Colour} {s t : State} (h : execRun n c s = .next t) : Ended s t := by
  refine Res.MovesFrom.ended ?_ h
  split
  · exact WorkOnly.moves (by constructor <;> rfl)
  · exact .refl

/-- What a codeword does when it is run by itself: a mode codeword is a coding step (R176 to R184), every other one enters
the stream by EMIT (R107, R152 to R156). -/
def codewordOp : Codeword → State → Res
  | .mode m => modeStep m
  | .run r => emitBits r.bits
  | .eol => emitBits eolRow.bits

theorem codewordOp_movesFrom (cw : Codeword) (s : State) : (codewordOp cw s).MovesFrom s := by
  cases cw with
  | mode m => exact modeStep_movesFrom m s
  | run r => exact emitBits_movesFrom _ s
  | eol => exact emitBits_movesFrom _ s

/-- The 205 codeword rows of the table run their codeword. -/
theorem exec_of_codeword {i : Instr} {cw : Codeword} (h : i.codeword = some cw) (s : State) :
    exec i s = settle (codewordOp cw s) := by
  cases i <;> cases h <;> rfl

/-- Everything that an operation but INIT and RESET can do. -/
theorem exec_ended {i : Instr} {s t : State} (hi : isRestart i = false) (h : exec i s = .next t) : Ended s t := by
  cases hc : i.codeword with
  | some cw => exact (codewordOp_movesFrom cw s).ended (exec_of_codeword hc s ▸ h)
  | none =>
    cases i with
    | init width height bitOrder sink cap => cases hi
    | addLine line => exact execAddLine_ended h
    | getOutputSize => exact ended_of_answer h
    | getError => exact ended_of_answer h
    | extract => exact (extractLine_movesFrom s).ended h
    | encodeLine => exact (encodeLine_movesFrom s).ended h
    | run n c => exact execRun_ended h
    | emit cw => exact (emitBits_movesFrom cw s).ended h
    | pushbit b => exact (pushBit_movesFrom b s).ended h
    | writeByte v => exact (writeByte_movesFrom v s).ended h
    | pushSegment => exact (pushSegment_movesFrom s).ended h
    | flushPartial => exact (flushPartial_movesFrom s).ended h
    | eofb => exact (emitEofb_movesFrom s).ended h
    | swap =>
      cases h
      exact .done (WorkOnly.moves (by constructor <;> rfl))
    | reset => cases hi
    | _ => cases hc

/-- What INIT and hardware reset leave alone, and COUNT, which they set back (R221, R227, R280, R281). -/
structure Restarted (s t : State) : Prop where
  params : t.params = s.params
  out : t.out = s.out
  delivered : t.delivered = s.delivered
  host : t.host = s.host
  count : t.count = 0

theorem hardReset_restarted (s : State) : Restarted s (hardReset s) := by constructor <;> rfl

theorem execInit_restarted {width : BitVec 16} {height : BitVec 32} {bitOrder sink : BitVec 8} {cap : BitVec 32}
    {s t : State} (h : execInit width height bitOrder sink cap s = .next t) : Restarted s t := by
  unfold execInit at h
  split at h
  · cases h
    constructor <;> rfl
  · cases h
    constructor <;> rfl

theorem exec_restarted {i : Instr} {s t : State} (hi : isRestart i = true) (h : exec i s = .next t) :
    Restarted s t := by
  cases i with
  | init width height bitOrder sink cap => exact execInit_restarted h
  | reset =>
    cases h
    exact hardReset_restarted s
  | _ => cases hi

end Sys2Proof.Machine
end

section
/-! PROOFS. O54: what holds of every state, whatever operation is run (10_state.md R29, 20_memory.md R62). -/

namespace Sys2Proof.Machine

/-- Parameters, CFG and the host's words stay as they are along a course of moves. -/
structure Kept (s t : State) : Prop where
  params : t.params = s.params
  cfg : t.cfg = s.cfg
  host : t.host = s.host

theorem Move.kept {s t : State} (h : Move s t) : Kept s t := by
  cases h with
  | work h => exact ⟨h.params, h.cfg, h.host⟩
  | tick n h => exact ⟨rfl, rfl, rfl⟩
  | store v sink room => exact ⟨rfl, rfl, rfl⟩
  | push sink staged reply fits => constructor <;> simp
  | failedPush sink reply => constructor <;> simp

theorem Moves.kept {s t : State} (h : Moves s t) : Kept s t := by
  induction h with
  | refl => exact ⟨rfl, rfl, rfl⟩
  | tail _ m ih => exact ⟨m.kept.params.trans ih.params, m.kept.cfg.trans ih.cfg, m.kept.host.trans ih.host⟩

/-- In FIXED mode a byte is stored only below CFG.CAP, and COUNT is otherwise left alone (R29, R203). -/
theorem Move.fill {s t : State} (m : Move s t) (hs : s.cfg.sink = .fixed) (h : s.count.toNat ≤ s.cfg.cap.toNat) :
    t.count.toNat ≤ s.cfg.cap.toNat := by
  cases m with
  | work w => rwa [w.count]
  | tick n _ => exact h
  | store v sink room =>
    change (s.count + 1).toNat ≤ _
    have := s.cfg.cap.isLt
    rw [BitVec.toNat_add_of_lt] <;> simp <;> omega
  | push sink staged reply fits => simp [hs] at sink
  | failedPush sink reply => simp [hs] at sink

theorem Move.out_wf {s t : State} (m : Move s t) (h : s.out.wf = true) : t.out.wf = true := by
  cases m with
  | work w => rwa [w.out]
  | tick n _ => exact h
  | store v sink room => exact memWrite_wf _ v h
  | push sink staged reply fits => simpa using h
  | failedPush sink reply => simpa using h

theorem Move.coreInv {s t : State} (m : Move s t) (h : CoreInv s) : CoreInv t where
  params := m.kept.params ▸ h.params
  memory := m.out_wf h.memory
  fill hs := by
    rw [m.kept.cfg] at hs ⊢
    exact m.fill hs (h.fill hs)

theorem Moves.coreInv {s t : State} (h : Moves s t) (hs : CoreInv s) : CoreInv t := by
  induction h with
  | refl => exact hs
  | tail _ m ih => exact m.coreInv ih

theorem Restarted.coreInv {s t : State} (h : Restarted s t) (hs : CoreInv s) : CoreInv t where
  params := h.params ▸ hs.params
  memory := h.out ▸ hs.memory
  fill _ := by simp [h.count]

/-- A raise keeps CFG, COUNT and OUT (R259). -/
theorem takeError_coreInv {s : State} (e : ErrKind) (h : CoreInv s) : CoreInv (takeError e s) :=
  ⟨h.params, h.memory, h.fill⟩

theorem Ended.coreInv {s t : State} (h : Ended s t) (hs : CoreInv s) : CoreInv t := by
  cases h with
  | done moves => exact moves.coreInv hs
  | raised e moves => exact takeError_coreInv e (moves.coreInv hs)
  | cut moves due => exact (hardReset_restarted _).coreInv (moves.coreInv hs)

/-- Settles O54: the invariant is kept by each elementary move, by a raise and by a restart. -/
theorem coreInvariantIsKeptByAll : Obligations.CoreInvariantIsKeptByAll := by
  intro i s t hs h
  cases hi : isRestart i with
  | true => exact (exec_restarted hi h).coreInv hs
  | false => exact (exec_ended hi h).coreInv hs

end Sys2Proof.Machine
end

section
/-! PROOFS. O57: what has been delivered stays, and in STREAM mode COUNT counts its bytes (10_state.md R29, 20_memory.md
R63, 43_bitpacker.md R205). -/

namespace Sys2Proof.Machine

/-- From `s` to `t` the segments `segs` are delivered, none of them empty: none at all in FIXED mode, and in STREAM mode
COUNT grows by their bytes. -/
structure Delivery (s t : State) (segs : List (List Byte)) : Prop where
  delivered : t.delivered = s.delivered ++ segs
  nonempty : ∀ seg ∈ segs, seg ≠ []
  fixed : s.cfg.sink = .fixed → segs = []
  stream : s.cfg.sink = .stream → t.count.toNat = s.count.toNat + segs.flatten.length

/-- Nothing is delivered where neither COUNT nor what was delivered changes. -/
theorem Delivery.nil {s t : State} (hd : t.delivered = s.delivered) (hc : t.count = s.count) : Delivery s t [] where
  delivered := by simp [hd]
  nonempty := by simp
  fixed _ := rfl
  stream _ := by simp [hc]

theorem Delivery.append {s u t : State} {as bs : List (List Byte)} (ha : Delivery s u as) (hb : Delivery u t bs)
    (hcfg : u.cfg = s.cfg) : Delivery s t (as ++ bs) where
  delivered := by rw [hb.delivered, ha.delivered, List.append_assoc]
  nonempty seg h := (List.mem_append.1 h).elim (ha.nonempty seg) (hb.nonempty seg)
  fixed hs := by rw [ha.fixed hs, hb.fixed (hcfg ▸ hs), List.append_nil]
  stream hs := by
    have hu := ha.stream hs
    have ht := hb.stream (hcfg ▸ hs)
    simp only [List.flatten_append, List.length_append]
    omega

theorem Move.delivery {s t : State} (m : Move s t) : ∃ segs, Delivery s t segs := by
  cases m with
  | work w => exact ⟨[], .nil w.delivered w.count⟩
  | tick n h => exact ⟨[], .nil rfl rfl⟩
  | store v sink room => exact ⟨[], by simp, by simp, fun _ => rfl, fun h => by simp [sink] at h⟩
  | push sink staged reply fits =>
    refine ⟨[s.stg], rfl, by simpa using staged, fun h => by simp [sink] at h, fun _ => ?_⟩
    have hlen : (BitVec.ofNat 32 s.stg.length).toNat = s.stg.length := by simp; omega
    change (s.count + BitVec.ofNat 32 s.stg.length).toNat = _
    rw [BitVec.toNat_add_of_lt (by omega), hlen]
    simp
  | failedPush sink reply => exact ⟨[], .nil (by simp) (by simp)⟩

theorem Moves.delivery {s t : State} (h : Moves s t) : ∃ segs, Delivery s t segs := by
  induction h with
  | refl => exact ⟨[], .nil rfl rfl⟩
  | tail h m ih =>
    obtain ⟨as, ha⟩ := ih
    obtain ⟨bs, hb⟩ := m.delivery
    exact ⟨as ++ bs, ha.append hb (Moves.kept h).cfg⟩

/-- Without a reset to come none comes along a course of moves. -/
theorem Moves.resetIn_none {s t : State} (h : Moves s t) (hs : s.resetIn = none) : t.resetIn = none := by
  induction h with
  | refl => exact hs
  | tail _ m ih =>
    cases m with
    | work w => rw [w.resetIn, ih]
    | tick n h => simp [ih] at h
    | store v sink room => exact ih
    | push sink staged reply fits => simpa using ih
    | failedPush sink reply => simpa using ih

/-- The first half of O57, for one operation: the parameters and the host's words stay, and so does what was delivered. -/
structure Grown (s t : State) : Prop where
  delivered : s.delivered <+: t.delivered
  params : t.params = s.params
  host : t.host = s.host
  fixed : s.cfg.sink = .fixed → t.delivered = s.delivered

theorem Moves.grown {s t : State} (h : Moves s t) : Grown s t := by
  obtain ⟨segs, hd⟩ := h.delivery
  exact {
    delivered := ⟨segs, hd.delivered.symm⟩
    params := (Moves.kept h).params
    host := (Moves.kept h).host
    fixed := fun hs => by rw [hd.delivered, hd.fixed hs, List.append_nil] }

theorem Ended.grown {s t : State} (h : Ended s t) : Grown s t := by
  cases h with
  | done moves => exact moves.grown
  | raised e moves =>
    obtain ⟨hd, hp, hh, hf⟩ := Moves.grown moves
    exact ⟨hd, hp, hh, hf⟩
  | cut moves due =>
    obtain ⟨hd, hp, hh, hf⟩ := Moves.grown moves
    exact ⟨hd, hp, hh, hf⟩

theorem Restarted.grown {s t : State} (h : Restarted s t) : Grown s t :=
  ⟨by rw [h.delivered], h.params, h.host, fun _ => h.delivered⟩

theorem exec_grown {i : Instr} {s t : State} (h : exec i s = .next t) : Grown s t := by
  cases hi : isRestart i with
  | true => exact (exec_restarted hi h).grown
  | false => exact (exec_ended hi h).grown

/-- Without a reset to come an operation ends where its moves lead, and a raise there changes neither COUNT nor what was
delivered. -/
theorem Ended.delivery {s t : State} (h : Ended s t) (hs : s.resetIn = none) : ∃ segs, Delivery s t segs := by
  cases h with
  | done moves => exact moves.delivery
  | raised e moves =>
    obtain ⟨segs, hd, hn, hf, hc⟩ := Moves.delivery moves
    exact ⟨segs, hd, hn, hf, hc⟩
  | cut moves due => simp [Moves.resetIn_none moves hs] at due

/-- Settles O57: along its moves an operation delivers only the segments it pushes, and counts their bytes. -/
theorem deliveredStreamOnlyGrows : Obligations.DeliveredStreamOnlyGrows := by
  refine ⟨fun i s t h => ?_, fun i s t hi hs sink h => ?_⟩
  · obtain ⟨hd, hp, hh, hf⟩ := exec_grown h
    exact ⟨hd, hp, hh, hf⟩
  · obtain ⟨segs, hd⟩ := (exec_ended hi h).delivery hs
    exact ⟨segs, hd.delivered, hd.stream sink, hd.nonempty⟩

end Sys2Proof.Machine
end

section
/-! PROOFS. O2: a step fetches, decodes and runs (00_scope.md R12). -/

namespace Sys2Proof.Machine

theorem step_of_decode_ok {s : State} {w : PortWord} {ws : List PortWord} {i : Instr} (hw : s.host = w :: ws)
    (hd : decode w = .ok i) : step s = exec i { s with host := ws } := by
  simp only [step, fetch_cons hw, hd]

theorem step_of_decode_bad {s : State} {w : PortWord} {ws : List PortWord} {e : DecodeError} (hw : s.host = w :: ws)
    (hd : decode w = .bad e) : step s = .refused (.malformedWord e) := by
  simp only [step, fetch_cons hw, hd]

/-- With no word waiting the block is idle (R271). -/
theorem step_of_no_word {s : State} (h : s.host = []) : step s = .next s := by
  simp only [step, fetch_nil h]

/-- Settles O2, by whether a word waits and what it decodes to. -/
theorem stepRunsDecodedOperation : Obligations.StepRunsDecodedOperation :=
  ⟨fun _ _ _ _ => step_of_decode_ok, fun _ _ _ _ => step_of_decode_bad, fun _ => step_of_no_word⟩

end Sys2Proof.Machine
end

section
/-! PROOFS. O55: COUNT falls in no operation but INIT and RESET (10_state.md R29, 43_bitpacker.md R209). -/

namespace Sys2Proof.Machine

/-- A move leaves COUNT alone, counts a byte stored below CFG.CAP, or counts the bytes of a segment that fits (R29). -/
theorem Move.count_le {s t : State} (m : Move s t) : s.count.toNat ≤ t.count.toNat := by
  cases m with
  | work w => rw [w.count]
  | tick n h => exact le_rfl
  | store v sink room =>
    change _ ≤ (s.count + 1).toNat
    have := s.cfg.cap.isLt
    rw [BitVec.toNat_add_of_lt (by simp; omega)]
    exact Nat.le_add_right _ _
  | push sink staged reply fits =>
    obtain ⟨segs, hd⟩ := (Move.push sink staged reply fits).delivery
    have := hd.stream sink
    omega
  | failedPush sink reply => simp

theorem Moves.count_le {s t : State} (h : Moves s t) : s.count.toNat ≤ t.count.toNat := by
  induction h with
  | refl => exact le_rfl
  | tail _ m ih => exact ih.trans m.count_le

/-- A raise keeps COUNT (R259), and without a reset to come nothing else ends the moves early. -/
theorem Ended.count_le {s t : State} (h : Ended s t) (hs : s.resetIn = none) : s.count.toNat ≤ t.count.toNat := by
  cases h with
  | done moves => exact moves.count_le
  | raised e moves => simpa using Moves.count_le moves
  | cut moves due => simp [Moves.resetIn_none moves hs] at due

/-- Settles O55, along the moves of the operation. -/
theorem countNeverFalls : Obligations.CountNeverFalls :=
  fun _ _ _ hi hs h => (exec_ended hi h).count_le hs

end Sys2Proof.Machine
end

section
/-! PROOFS. O1, O5, O29: hardware reset, a legal INIT, and where PUSH_SEGMENT stops (44_session_commands.md R221, R227,
43_bitpacker.md R205). -/

namespace Sys2Proof.Machine

theorem exec_reset (s : State) : exec .reset s = .next (hardReset s) := rfl

theorem hardReset_resetFrom (s : State) : resetFrom s (hardReset s) :=
  ⟨rfl, rfl, rfl, rfl, rfl, rfl, rfl, rfl, rfl⟩

/-- Settles O1, by the fields of `hardReset`. -/
theorem hardwareResetLeavesUninit : Obligations.HardwareResetLeavesUninit :=
  ⟨fun s => ⟨hardReset s, exec_reset s, hardReset_resetFrom s, by simp⟩, rfl, rfl, rfl⟩

theorem initLegal_iff {p : Params} {width : BitVec 16} {height : BitVec 32} {bitOrder sink : BitVec 8} :
    initLegal p width height bitOrder sink = true ↔
      1 ≤ width.toNat ∧ width.toNat ≤ p.maxTransitions ∧ 1 ≤ height.toNat ∧ bitOrder.toNat ≤ 1 ∧ sink.toNat ≤ 1 := by
  simp [initLegal, and_assoc]

/-- The CFG that the operands of INIT stand for (R111, R221). -/
def initCfg (width : BitVec 16) (height : BitVec 32) (bitOrder sink : BitVec 8) (cap : BitVec 32) : CfgRegs :=
  { width := width, height := height, bitOrder := bitOrderOf bitOrder, sink := sinkOf sink, cap := cap }

/-- INIT starts a session with its operands, or refuses them (R221). -/
theorem exec_init_cases (width : BitVec 16) (height : BitVec 32) (bitOrder sink : BitVec 8) (cap : BitVec 32)
    (s : State) :
    (initLegal s.params width height bitOrder sink = true ∧ exec (.init width height bitOrder sink cap) s =
        .next ((startSession (initCfg width height bitOrder sink cap) s).answer .success 0))
    ∨ (initLegal s.params width height bitOrder sink = false ∧ exec (.init width height bitOrder sink cap) s =
        .next ((unspecifyAll s).answer .invalidParameter 0)) := by
  change (_ ∧ execInit width height bitOrder sink cap s = _) ∨ (_ ∧ execInit width height bitOrder sink cap s = _)
  unfold execInit
  cases h : initLegal s.params width height bitOrder sink
  · exact .inr ⟨rfl, rfl⟩
  · exact .inl ⟨rfl, rfl⟩

/-- Settles O5, by the fields of `startSession`. -/
theorem initStartsSession : Obligations.InitStartsSession := by
  intro width height bitOrder sink cap s hpos hmax hheight horder hsink
  have legal : initLegal s.params width height bitOrder sink = true :=
    initLegal_iff.2 ⟨hpos, hmax, hheight, horder, hsink⟩
  obtain ⟨-, e⟩ | ⟨illegal, -⟩ := exec_init_cases width height bitOrder sink cap s
  · refine ⟨_, e, ?_⟩
    simp [initCfg, bitOrderOf, sinkOf, State.ref, State.tl]
  · simp [legal] at illegal

theorem exec_pushSegment (s : State) : exec .pushSegment s = settle (pushSegment s) := rfl

theorem nextReply_cons {s : State} {r : SinkReply} {rs : List SinkReply} (h : s.sinkReplies = r :: rs) :
    nextReply s = r := by
  simp [nextReply, h]

/-- Inside its precondition and with no reset to come PUSH_SEGMENT is the push to the sink (R205). -/
theorem pushSegment_eq_sinkPush {s : State} (sink : s.cfg.sink = .stream) (staged : s.stg ≠ [])
    (quiet : s.resetIn = none) : pushSegment s = sinkPush s := by
  obtain ⟨-, -, e⟩ | ⟨outside, -⟩ := pushSegment_cases s
  · rw [e, outputTick_quiet quiet, andThen_ok]
  · simp [sink, staged] at outside

theorem sinkPush_silent {s : State} (h : nextReply s = .silent) : sinkPush s = .stop .sinkSilent := by
  obtain ⟨hr, -⟩ | ⟨hr, -⟩ | ⟨hr, -⟩ | ⟨-, e⟩ := sinkPush_cases s
  · simp [h] at hr
  · simp [h] at hr
  · simp [h] at hr
  · exact e

theorem sinkPush_beyond32Bits {s : State} (h : nextReply s = .ok) (full : 4294967296 ≤ s.count.toNat + s.stg.length) :
    sinkPush s = .refuse .countBeyond32Bits := by
  obtain ⟨-, fits, -⟩ | ⟨-, -, e⟩ | ⟨hr, -⟩ | ⟨hr, -⟩ := sinkPush_cases s
  · omega
  · exact e
  · simp [h] at hr
  · simp [h] at hr

theorem pushSegment_outside {s : State} (h : s.cfg.sink = .fixed ∨ s.stg = []) :
    pushSegment s = .refuse .pushPrecondition := by
  obtain ⟨sink, staged, -⟩ | ⟨-, e⟩ := pushSegment_cases s
  · simp [sink, staged] at h
  · exact e

/-- Settles O29, one stop at a time. -/
theorem pushSegmentStops : Obligations.PushSegmentStops := by
  refine ⟨fun s rs sink staged quiet reply => ?_, fun s rs sink staged quiet reply full => ?_, fun s outside => ?_⟩
  · rw [exec_pushSegment, pushSegment_eq_sinkPush sink staged quiet, sinkPush_silent (nextReply_cons reply), settle]
  · rw [exec_pushSegment, pushSegment_eq_sinkPush sink staged quiet,
      sinkPush_beyond32Bits (nextReply_cons reply) full, settle]
  · rw [exec_pushSegment, pushSegment_outside outside, settle]

end Sys2Proof.Machine
end

section
/-! PROOFS. What packing does bit by bit, and ACC as the packed byte of the pending bits (10_state.md R30, 20_memory.md R65,
R66, 43_bitpacker.md R201, R207). -/

namespace Sys2Proof.Machine

/-! ### Numerals and positions -/

theorem natOfBits_concat (bs : Bits) (b : Bool) : natOfBits (bs ++ [b]) = 2 * natOfBits bs + b.toNat := by
  simp [natOfBits]

/-- Digit `i` of a numeral stands `i` places from its right end. -/
theorem testBit_natOfBits (bs : Bits) (i : Nat) : (natOfBits bs).testBit i = bs.reverse.getD i false := by
  induction bs using List.reverseRecOn generalizing i with
  | nil => simp [natOfBits]
  | append_singleton bs b ih =>
    rw [natOfBits_concat]
    cases i with
    | zero => cases b <;> simp
    | succ i =>
      have half : (2 * natOfBits bs + b.toNat) / 2 = natOfBits bs := by cases b <;> simp; omega
      simp [Nat.testBit_succ, half, ih]

theorem bitPos_lt {order : BitOrder} {j : Nat} (h : j < 8) : bitPos order j < 8 := by
  cases order <;> simp only [bitPos] <;> omega

theorem bitPos_bitPos {order : BitOrder} {j : Nat} (h : j < 8) : bitPos order (bitPos order j) = j := by
  cases order <;> simp only [bitPos]
  omega

theorem bitPos_inj {order : BitOrder} {i j : Nat} (hi : i < 8) (hj : j < 8) :
    bitPos order i = bitPos order j ↔ i = j :=
  ⟨fun h => by rw [← bitPos_bitPos hi, h, bitPos_bitPos hj], congrArg _⟩

/-- A byte is known by its bits in the order of the stream. -/
theorem byte_ext (order : BitOrder) {x y : Byte}
    (h : ∀ j < 8, x.getLsbD (bitPos order j) = y.getLsbD (bitPos order j)) : x = y :=
  BitVec.eq_of_getLsbD_eq fun i hi => by simpa only [bitPos_bitPos hi] using h (bitPos order i) (bitPos_lt hi)

/-! ### Bytes of a stream -/

theorem padEight_length (bs : Bits) : (padEight bs).length = 8 := by simp [padEight]

theorem padEight_getD (bs : Bits) {j : Nat} (h : j < 8) : (padEight bs).getD j false = bs.getD j false := by
  by_cases hj : j < bs.length
  · simp [padEight, List.getElem?_take_of_lt h, List.getElem?_append_left hj]
  · rw [List.getD_eq_default _ _ (Nat.le_of_not_lt hj), padEight, List.getD_eq_getElem?_getD,
      List.getElem?_take_of_lt h, List.getElem?_append_right (Nat.le_of_not_lt hj), List.getElem?_replicate]
    split <;> rfl

/-- Stream bit `j` of a packed byte stands at its place in the bit order; the pad bits are 0 (R65, R66). -/
theorem getLsbD_packByte (order : BitOrder) (bs : Bits) {j : Nat} (h : j < 8) :
    (packByte order bs).getLsbD (bitPos order j) = bs.getD j false := by
  have hlt : bitPos order j < 8 := bitPos_lt h
  cases order with
  | msbFirst =>
    have hrev : (padEight bs).reverse.getD (7 - j) false = (padEight bs).getD j false := by
      rw [List.getD_eq_getElem?_getD, List.getElem?_reverse (by rw [padEight_length]; omega), padEight_length,
        show 8 - 1 - (7 - j) = j by omega, List.getD_eq_getElem?_getD]
    simp only [packByte, bitPos, BitVec.getLsbD_ofNat, testBit_natOfBits, hrev, padEight_getD bs h]
    simp only [show 7 - j < 8 by omega, decide_true, Bool.true_and]
  | lsbFirst =>
    simp only [packByte, bitPos, BitVec.getLsbD_ofNat, testBit_natOfBits, List.reverse_reverse, padEight_getD bs h]
    simp only [h, decide_true, Bool.true_and]

theorem packBytes_length (order : BitOrder) (n : Nat) (bs : Bits) : (packBytes order n bs).length = n := by
  induction n generalizing bs with
  | zero => rfl
  | succ n ih => simp [packBytes, ih]

/-! ### ACC -/

@[simp] theorem pending_length (s : State) : s.pending.length = s.nb.toNat := by simp [State.pending]

theorem pending_getD (s : State) {j : Nat} :
    s.pending.getD j false = (decide (j < s.nb.toNat) && s.acc.getLsbD (bitPos s.cfg.bitOrder j)) := by
  by_cases h : j < s.nb.toNat <;> simp [State.pending, h]

/-- ACC is clean where no stream position at or beyond NB holds a 1 (R30). -/
theorem accClean_iff (s : State) :
    s.accClean = true ↔ ∀ j < 8, s.nb.toNat ≤ j → s.acc.getLsbD (bitPos s.cfg.bitOrder j) = false := by
  simp only [State.accClean, List.all_eq_true, List.mem_range, Bool.or_eq_true, decide_eq_true_eq, Bool.not_eq_true']
  exact forall₂_congr fun j _ => by rw [← Nat.not_lt, or_iff_not_imp_left]

/-- A clean ACC is the packed byte of its pending bits (R30, R207). -/
theorem accClean_iff_acc (s : State) : s.accClean = true ↔ s.acc = packByte s.cfg.bitOrder s.pending := by
  rw [accClean_iff]
  refine ⟨fun h => byte_ext s.cfg.bitOrder fun j hj => ?_, fun h j hj hnb => ?_⟩
  · rw [getLsbD_packByte _ _ hj, pending_getD]
    by_cases hnb : j < s.nb.toNat
    · simp [hnb]
    · simp [hnb, h j hj (by omega)]
  · rw [h, getLsbD_packByte _ _ hj, pending_getD]
    simp [Nat.not_lt.2 hnb]

theorem accClean_of_empty {s : State} (h : s.acc = 0) : s.accClean = true :=
  (accClean_iff s).2 fun j _ _ => by simp [h]

theorem pending_of_empty {s : State} (h : s.nb = 0) : s.pending = [] := by simp [State.pending, h]

/-- The bit that PUSHBIT places stands at its own position, and the others stay (R201). -/
theorem getLsbD_placeBit (order : BitOrder) (acc : BitVec 8) (nb : BitVec 3) (b : Bool) {j : Nat} (h : j < 8) :
    (placeBit order acc nb b).getLsbD (bitPos order j)
      = (acc.getLsbD (bitPos order j) || (b && decide (j = nb.toNat))) := by
  have hnb : nb.toNat < 8 := nb.isLt
  cases b with
  | false => simp [placeBit]
  | true =>
    simp only [placeBit, if_true, BitVec.getLsbD_or, BitVec.getLsbD_twoPow, Bool.true_and]
    simp [bitPos_lt hnb, bitPos_inj hnb h, eq_comm]

/-- With a clean ACC, PUSHBIT makes it the packed byte of the pending bits and the new one (R201, R207). -/
theorem placeBit_eq_packByte {s : State} (clean : s.accClean = true) (b : Bool) :
    placeBit s.cfg.bitOrder s.acc s.nb b = packByte s.cfg.bitOrder (s.pending ++ [b]) := by
  refine byte_ext s.cfg.bitOrder fun j hj => ?_
  rw [getLsbD_placeBit _ _ _ _ hj, getLsbD_packByte _ _ hj]
  obtain hlt | rfl | hgt := lt_trichotomy j s.nb.toNat
  · have := pending_getD s (j := j)
    simp only [hlt, decide_true, Bool.true_and] at this
    rw [← this, List.getD_append _ _ _ _ (by simpa using hlt)]
    simp [Nat.ne_of_lt hlt]
  · rw [(accClean_iff s).1 clean _ hj le_rfl, List.getD_append_right _ _ _ _ (by simp)]
    simp
  · rw [(accClean_iff s).1 clean j hj hgt.le]
    simp [Nat.ne_of_gt hgt]
    rw [List.getElem?_eq_none (by simp; omega)]
    rfl

/-- The state after a bit has been placed in a byte that it does not fill (R201). -/
def State.placed (s : State) (b : Bool) : State :=
  { s with acc := placeBit s.cfg.bitOrder s.acc s.nb b, nb := s.nb + 1 }

theorem placed_nb {s : State} (h : s.nb ≠ 7) (b : Bool) : (s.placed b).nb.toNat = s.nb.toNat + 1 := by
  change (s.nb + 1).toNat = _
  have : s.nb.toNat ≠ 7 := fun h7 => h (BitVec.eq_of_toNat_eq h7)
  rw [BitVec.toNat_add_of_lt (by simp; omega)]
  rfl

theorem placed_pending {s : State} (clean : s.accClean = true) (h : s.nb ≠ 7) (b : Bool) :
    (s.placed b).pending = s.pending ++ [b] := by
  have hnb := placed_nb h b
  have hlt := (s.placed b).nb.isLt
  refine List.ext_getElem (by simp [hnb]) fun j h1 h2 => ?_
  have hj : j < s.nb.toNat + 1 := by simpa [hnb] using h1
  have hacc : (s.placed b).acc.getLsbD (bitPos s.cfg.bitOrder j) = (s.pending ++ [b]).getD j false := by
    rw [show (s.placed b).acc = _ from placeBit_eq_packByte clean b, getLsbD_packByte _ _ (by omega)]
  calc (s.placed b).pending[j]
      _ = (s.placed b).pending.getD j false := (List.getD_eq_getElem _ _ h1).symm
      _ = (s.placed b).acc.getLsbD (bitPos s.cfg.bitOrder j) := by
        rw [pending_getD, hnb, decide_eq_true hj, Bool.true_and]; rfl
      _ = (s.pending ++ [b])[j] := by rw [hacc, List.getD_eq_getElem _ _ h2]

theorem placed_accClean {s : State} (clean : s.accClean = true) (h : s.nb ≠ 7) (b : Bool) :
    (s.placed b).accClean = true := by
  rw [accClean_iff_acc, placed_pending clean h b]
  exact placeBit_eq_packByte clean b

end Sys2Proof.Machine
end

section
/-! PROOFS. What packer operations keep when they come to their end, and the kinds that they raise: the free positions of
ACC stay 0, and STGN stays below SEG_SIZE (10_state.md R30, R31, 60_exceptions.md R253, R255). -/

namespace Sys2Proof.Machine

/-! ### Operations that raise only what an output raises -/

/-- An operation that ends in a state with `Q`, if it comes to its end, and that raises DATA_OVERFLOW and IO_ERROR only. -/
def Res.Ensures (Q : State → Prop) : Res → Prop
  | .ok t => Q t
  | .raised e _ => e = .dataOverflow ∨ e = .ioError
  | .cut _ => True
  | .stop _ => True
  | .refuse _ => True

theorem Res.Ensures.mono {P Q : State → Prop} {r : Res} (h : r.Ensures P) (imp : ∀ t, r = .ok t → P t → Q t) :
    r.Ensures Q := by
  cases r with
  | ok t => exact imp t rfl h
  | raised e t => exact h
  | cut t => trivial
  | stop f => trivial
  | refuse x => trivial

theorem Res.Ensures.andThen {P Q : State → Prop} {r : Res} {k : State → Res} (h : r.Ensures P)
    (hk : ∀ u, P u → (k u).Ensures Q) : (r.andThen k).Ensures Q := by
  cases r with
  | ok u => exact hk u h
  | raised e u => exact h
  | cut u => trivial
  | stop f => trivial
  | refuse x => trivial

/-! ### The invariant of the packer -/

/-- What holds of the packer between micro-operations (R30, R31). -/
structure PackInv (s : State) : Prop where
  clean : s.accClean = true
  staged : s.stg.length < s.params.segSize
  unstaged : s.cfg.sink = .fixed → s.stg = []

/-- The packer's invariant still holds, and the registers that are not the packer's are as they were in `s`. -/
def PackKept (s t : State) : Prop := PackInv t ∧ PackFrame s t

theorem PackInv.refl {s : State} (h : PackInv s) : PackKept s s := ⟨h, PackFrame.refl s⟩

theorem PackKept.trans {a b c : State} (hab : PackKept a b) (hbc : PackKept b c) : PackKept a c :=
  ⟨hbc.1, PackFrame.trans a b c hab.2 hbc.2⟩

/-- The part of the packer's invariant that WRITE_BYTE is about: staging, with ACC and NB left alone (R202 to R205). -/
structure StageKept (s t : State) : Prop where
  acc : t.acc = s.acc
  nb : t.nb = s.nb
  staged : t.stg.length < t.params.segSize
  unstaged : t.cfg.sink = .fixed → t.stg = []

theorem StageKept.packInv {s t : State} (h : StageKept s t) (hc : t.cfg = s.cfg) (clean : s.accClean = true) :
    PackInv t where
  clean := by
    rw [accClean_iff] at clean ⊢
    rwa [h.acc, h.nb, hc]
  staged := h.staged
  unstaged := h.unstaged

/-- Whether the reset line counts down or not, what runs after it has been looked at finds the same packer. -/
theorem outputTick_andThen_ensures {s : State} {k : State → Res} {Q : State → Prop}
    (hk : ∀ r, (k { s with resetIn := r }).Ensures Q) : ((outputTick s).andThen k).Ensures Q := by
  obtain ⟨-, e⟩ | ⟨-, e⟩ | ⟨n, -, e⟩ := outputTick_cases s <;> rw [e]
  · exact hk s.resetIn
  · trivial
  · exact hk (some n)

/-- A push that comes to its end leaves nothing staged (R205). -/
theorem sinkPush_ensures {s u : State} (acc : u.acc = s.acc) (nb : u.nb = s.nb) (seg : 0 < u.params.segSize) :
    (sinkPush u).Ensures fun t => StageKept s t ∧ t.stg = [] := by
  obtain ⟨-, -, e⟩ | ⟨-, -, e⟩ | ⟨-, e⟩ | ⟨-, e⟩ := sinkPush_cases u <;> rw [e]
  · exact ⟨⟨by simpa using acc, by simpa using nb, by simpa using seg, fun _ => rfl⟩, rfl⟩
  · trivial
  · exact .inr rfl
  · trivial

theorem pushSegment_ensures {s u : State} (acc : u.acc = s.acc) (nb : u.nb = s.nb) (seg : 0 < u.params.segSize) :
    (pushSegment u).Ensures fun t => StageKept s t ∧ t.stg = [] := by
  obtain ⟨-, -, e⟩ | ⟨-, e⟩ := pushSegment_cases u <;> rw [e]
  · exact outputTick_andThen_ensures fun _ => sinkPush_ensures acc nb seg
  · trivial

theorem writeByteFixed_ensures {s : State} (v : Byte) (staged : s.stg.length < s.params.segSize)
    (unstaged : s.cfg.sink = .fixed → s.stg = []) : (writeByteFixed v s).Ensures (StageKept s) := by
  obtain ⟨-, e⟩ | ⟨-, e⟩ | ⟨-, e⟩ := writeByteFixed_cases v s <;> rw [e]
  · exact .inl rfl
  · exact outputTick_andThen_ensures fun _ => ⟨rfl, rfl, staged, unstaged⟩
  · trivial

theorem writeByteStream_ensures {s : State} (v : Byte) (sink : s.cfg.sink = .stream) :
    (writeByteStream v s).Ensures (StageKept s) := by
  obtain ⟨room, e⟩ | ⟨full, e⟩ | ⟨-, e⟩ := writeByteStream_cases v s <;> rw [e]
  · exact ⟨rfl, rfl, by simpa using room, fun fixed => by simp [sink] at fixed⟩
  · have seg : 0 < s.params.segSize := by omega
    exact (pushSegment_ensures (s := s) (u := { s with stg := s.stg ++ [v] }) rfl rfl seg).mono fun _ _ h => h.1
  · trivial

theorem writeByte_ensures {s : State} (v : Byte) (staged : s.stg.length < s.params.segSize)
    (unstaged : s.cfg.sink = .fixed → s.stg = []) : (writeByte v s).Ensures (StageKept s) := by
  obtain ⟨-, e⟩ | ⟨sink, e⟩ := writeByte_cases v s <;> rw [e]
  · exact writeByteFixed_ensures v staged unstaged
  · exact writeByteStream_ensures v sink

/-- With ACC emptied first, WRITE_BYTE leaves a clean, empty ACC (R201, R206). -/
theorem writeByte_emptied_ensures {s : State} (h : PackInv s) (v : Byte) :
    (writeByte v { s with acc := 0, nb := 0 }).Ensures fun t => PackKept s t ∧ t.nb = 0 := by
  refine (writeByte_ensures (s := { s with acc := 0, nb := 0 }) v h.staged h.unstaged).mono fun t ht kept => ?_
  have frame : PackFrame { s with acc := 0, nb := 0 } t := writeByte_frame (.inl ht)
  exact ⟨⟨kept.packInv frame.cfg (accClean_of_empty rfl), PackFrame.trans s _ t (by constructor <;> rfl) frame⟩, kept.nb⟩

theorem pushBit_ensures {s : State} (h : PackInv s) (b : Bool) : (pushBit b s).Ensures (PackKept s) := by
  obtain ⟨hnb, e⟩ | ⟨-, e⟩ := pushBit_cases b s <;> rw [e]
  · exact ⟨⟨placed_accClean h.clean hnb b, h.staged, h.unstaged⟩, by constructor <;> rfl⟩
  · exact (writeByte_emptied_ensures h _).mono fun _ _ kept => kept.1

theorem emitBits_ensures {s : State} (h : PackInv s) (bs : Bits) : (emitBits bs s).Ensures (PackKept s) := by
  induction bs generalizing s with
  | nil => exact h.refl
  | cons b bs ih =>
    exact (pushBit_ensures h b).andThen fun u hu => (ih hu.1).mono fun _ _ => hu.trans

theorem emitEofb_ensures {s : State} (h : PackInv s) : (emitEofb s).Ensures (PackKept s) := by
  unfold emitEofb
  split
  · exact (emitBits_ensures h _).andThen fun u hu => (emitBits_ensures hu.1 _).mono fun _ _ => hu.trans
  · exact h.refl

/-- FLUSH_PARTIAL leaves nothing pending and nothing staged (R206). -/
theorem flushPartial_ensures {s : State} (h : PackInv s) :
    (flushPartial s).Ensures fun t => PackKept s t ∧ t.nb = 0 ∧ t.stg = [] := by
  refine Res.Ensures.andThen (P := fun u => PackKept s u ∧ u.nb = 0) ?_ fun u hu => ?_
  · split
    · exact ⟨h.refl, by assumption⟩
    · exact writeByte_emptied_ensures h _
  · obtain ⟨kept, hnb⟩ := hu
    split
    · refine (pushSegment_ensures rfl rfl (Nat.zero_lt_of_lt kept.1.staged)).mono fun t ht hpush => ?_
      obtain ⟨stage, hstg⟩ := hpush
      have frame := pushSegment_frame (.inl ht)
      exact ⟨kept.trans ⟨stage.packInv frame.cfg kept.1.clean, frame⟩, stage.nb.trans hnb, hstg⟩
    · rename_i none
      refine ⟨kept, hnb, ?_⟩
      cases sink : u.cfg.sink with
      | fixed => exact kept.1.unstaged sink
      | stream => simpa [sink] using none

end Sys2Proof.Machine
end

section
/-! PROOFS. O30: EMIT packs a bit string (43_bitpacker.md R200, R201, R204). -/

namespace Sys2Proof.Machine

/-! ### Bytes handed to an output that takes them -/

/-- The state after bytes have been handed to WRITE_BYTE one after another and taken (R203 to R205). -/
def State.wrote (s : State) (vs : List Byte) : State :=
  match s.cfg.sink with
  | .fixed => s.stored vs
  | .stream => s.pushed (segmentsOf s.params.segSize s.stg vs).1 (segmentsOf s.params.segSize s.stg vs).2

/-- No reset is to come, and the output takes the bytes (R29, R203 to R205). -/
def State.takes (s : State) (vs : List Byte) : Prop :=
  s.resetIn = none ∧
    match s.cfg.sink with
    | .fixed => s.count.toNat + vs.length ≤ s.cfg.cap.toNat
    | .stream =>
      s.stg.length < s.params.segSize
        ∧ s.repliesOk (segmentsOf s.params.segSize s.stg vs).1.length = true
        ∧ s.count.toNat + (segmentsOf s.params.segSize s.stg vs).1.flatten.length < 4294967296

theorem newBytes_length (s : State) (bs : Bits) : (s.newBytes bs).length = s.bytesDone bs := packBytes_length _ _ _

theorem room_iff_takes (s : State) (bs : Bits) : s.room bs = true ↔ s.takes (s.newBytes bs) := by
  unfold State.room State.takes
  cases s.cfg.sink <;> simp [newBytes_length, and_assoc]

theorem wrote_fixed {s : State} (h : s.cfg.sink = .fixed) (vs : List Byte) : s.wrote vs = s.stored vs := by
  simp [State.wrote, h]

theorem wrote_stream {s : State} (h : s.cfg.sink = .stream) (vs : List Byte) :
    s.wrote vs = s.pushed (segmentsOf s.params.segSize s.stg vs).1 (segmentsOf s.params.segSize s.stg vs).2 := by
  simp [State.wrote, h]

theorem takes_fixed {s : State} (h : s.cfg.sink = .fixed) (vs : List Byte) :
    s.takes vs ↔ s.resetIn = none ∧ s.count.toNat + vs.length ≤ s.cfg.cap.toNat := by
  simp [State.takes, h]

theorem takes_stream {s : State} (h : s.cfg.sink = .stream) (vs : List Byte) :
    s.takes vs ↔ s.resetIn = none ∧ s.stg.length < s.params.segSize
      ∧ s.repliesOk (segmentsOf s.params.segSize s.stg vs).1.length = true
      ∧ s.count.toNat + (segmentsOf s.params.segSize s.stg vs).1.flatten.length < 4294967296 := by
  simp [State.takes, h]

/-- The state with other values in ACC and NB. -/
def State.withAcc (s : State) (acc : BitVec 8) (nb : BitVec 3) : State := { s with acc := acc, nb := nb }

@[simp] theorem withAcc_cfg (s : State) (acc : BitVec 8) (nb : BitVec 3) : (s.withAcc acc nb).cfg = s.cfg := rfl
@[simp] theorem withAcc_withAcc (s : State) (acc acc' : BitVec 8) (nb nb' : BitVec 3) :
    (s.withAcc acc nb).withAcc acc' nb' = s.withAcc acc' nb' := rfl
@[simp] theorem withAcc_self (s : State) : s.withAcc s.acc s.nb = s := rfl

/-- ACC and NB play no part in handing bytes over. -/
@[simp] theorem withAcc_wrote (s : State) (acc : BitVec 8) (nb : BitVec 3) (vs : List Byte) :
    (s.withAcc acc nb).wrote vs = (s.wrote vs).withAcc acc nb := by
  cases h : s.cfg.sink
  · rw [wrote_fixed h, wrote_fixed (s := s.withAcc acc nb) h]
    rfl
  · rw [wrote_stream h, wrote_stream (s := s.withAcc acc nb) h]
    rfl

@[simp] theorem withAcc_takes (s : State) (acc : BitVec 8) (nb : BitVec 3) : (s.withAcc acc nb).takes = s.takes := rfl

/-- An emission is its whole bytes handed over and the rest left in ACC (R200, R201). -/
theorem emitted_eq_wrote (s : State) (bs : Bits) :
    s.emitted bs = (s.wrote (s.newBytes bs)).withAcc (packByte s.cfg.bitOrder (s.leftover bs))
      (BitVec.ofNat 3 (s.leftover bs).length) := by
  rw [← withAcc_wrote]
  rfl

@[simp] theorem stored_nil (s : State) : s.stored [] = s := by simp [State.stored, writeBytes]

@[simp] theorem pushed_nil (s : State) : s.pushed [] s.stg = s := by simp [State.pushed]

@[simp] theorem wrote_nil (s : State) : s.wrote [] = s := by
  cases h : s.cfg.sink
  · rw [wrote_fixed h, stored_nil]
  · rw [wrote_stream h, segmentsOf, pushed_nil]

/-- One byte stored, and the bytes after it. -/
theorem stored_cons {s : State} (v : Byte) (vs : List Byte) (h : s.count.toNat + 1 < 2 ^ 32) :
    (s.stored [v]).stored vs = s.stored (v :: vs) := by
  have hc : (s.count + BitVec.ofNat 32 1).toNat = s.count.toNat + 1 := BitVec.toNat_add_of_lt h
  have hlen : s.count + BitVec.ofNat 32 1 + BitVec.ofNat 32 vs.length = s.count + BitVec.ofNat 32 (vs.length + 1) := by
    rw [BitVec.add_assoc, ← BitVec.ofNat_add, Nat.add_comm]
  simp only [State.stored, writeBytes, List.length_cons, List.length_nil, Nat.zero_add, hc, hlen]

theorem pushed_pushed (s : State) (as bs : List (List Byte)) (a b : List Byte) :
    (s.pushed as a).pushed bs b = s.pushed (as ++ bs) b := by
  simp [State.pushed, BitVec.add_assoc, BitVec.ofNat_add]

/-- A byte that does not fill the staging segment is staged (R204). -/
theorem segmentsOf_cons_staged {n : Nat} {stg : List Byte} {v : Byte} (h : stg.length + 1 ≠ n) (vs : List Byte) :
    segmentsOf n stg (v :: vs) = segmentsOf n (stg ++ [v]) vs := by
  simp [segmentsOf, h]

/-- A byte that fills it makes it a segment (R204, R205). -/
theorem segmentsOf_cons_full {n : Nat} {stg : List Byte} {v : Byte} (h : stg.length + 1 = n) (vs : List Byte) :
    segmentsOf n stg (v :: vs) = ((stg ++ [v]) :: (segmentsOf n [] vs).1, (segmentsOf n [] vs).2) := by
  simp [segmentsOf, h]

/-- The sink answers one more push: its next answer is OK. -/
theorem repliesOk_succ {s : State} {n : Nat} (h : s.repliesOk (n + 1) = true) :
    ∃ rs, s.sinkReplies = .ok :: rs ∧ rs.take n = List.replicate n .ok := by
  cases hr : s.sinkReplies with
  | nil => simp [State.repliesOk, hr] at h
  | cons r rs =>
    simp only [State.repliesOk, hr, List.take_succ_cons, List.replicate_succ, beq_iff_eq, List.cons.injEq] at h
    exact ⟨rs, by rw [h.1], h.2⟩

theorem sinkPush_ok {s : State} {rs : List SinkReply} (reply : s.sinkReplies = .ok :: rs)
    (fits : s.count.toNat + s.stg.length < 4294967296) : sinkPush s = .ok (s.pushed [s.stg] []) := by
  obtain ⟨-, -, e⟩ | ⟨-, full, -⟩ | ⟨hr, -⟩ | ⟨hr, -⟩ := sinkPush_cases s
  · rw [e]
    simp [State.pushed, takeReply, reply]
  · omega
  · simp [nextReply_cons reply] at hr
  · simp [nextReply_cons reply] at hr

/-- Of the bytes `v :: vs`, WRITE_BYTE takes the first, the output then takes the others, and that is handing over all of
them. -/
structure WritesFirst (s : State) (v : Byte) (vs : List Byte) : Prop where
  write : writeByte v s = .ok (s.wrote [v])
  takes : (s.wrote [v]).takes vs
  wrote : (s.wrote [v]).wrote vs = s.wrote (v :: vs)

/-- FIXED: the byte is stored (R203). -/
theorem writesFirst_fixed {s : State} (sink : s.cfg.sink = .fixed) {v : Byte} {vs : List Byte}
    (h : s.takes (v :: vs)) : WritesFirst s v vs := by
  obtain ⟨quiet, fits⟩ := (takes_fixed sink _).1 h
  simp only [List.length_cons] at fits
  have hcap := s.cfg.cap.isLt
  have sink' : (s.stored [v]).cfg.sink = .fixed := sink
  constructor
  · obtain ⟨-, e⟩ | ⟨stream, -⟩ := writeByte_cases v s
    · obtain ⟨full, -⟩ | ⟨-, e'⟩ | ⟨beyond, -⟩ := writeByteFixed_cases v s
      · rw [full] at fits
        omega
      · rw [e, e', outputTick_quiet quiet, wrote_fixed sink]
        rfl
      · omega
    · simp [sink] at stream
  · have counted : (s.stored [v]).count.toNat = s.count.toNat + 1 := BitVec.toNat_add_of_lt (by simp; omega)
    rw [wrote_fixed sink, takes_fixed sink', counted, stored_cfg]
    exact ⟨quiet, by omega⟩
  · rw [wrote_fixed sink, wrote_fixed sink', wrote_fixed sink, stored_cons v vs (by omega)]

/-- STREAM, with room left in the segment after the byte: it is staged (R204). -/
theorem writesFirst_staged {s : State} (sink : s.cfg.sink = .stream) {v : Byte} {vs : List Byte}
    (room : s.stg.length + 1 < s.params.segSize) (write : writeByte v s = .ok { s with stg := s.stg ++ [v] })
    (h : s.takes (v :: vs)) : WritesFirst s v vs := by
  obtain ⟨quiet, -, replies, fits⟩ := (takes_stream sink _).1 h
  have notFull : s.stg.length + 1 ≠ s.params.segSize := by omega
  have one : s.wrote [v] = { s with stg := s.stg ++ [v] } := by
    rw [wrote_stream sink, segmentsOf_cons_staged notFull, segmentsOf]
    simp [State.pushed]
  rw [segmentsOf_cons_staged notFull] at replies fits
  constructor
  · rw [write, one]
  · rw [one, takes_stream (s := { s with stg := s.stg ++ [v] }) sink]
    exact ⟨quiet, by simpa using room, replies, fits⟩
  · rw [one, wrote_stream (s := { s with stg := s.stg ++ [v] }) sink, wrote_stream sink, segmentsOf_cons_staged notFull]
    rfl

/-- STREAM, with the segment full after the byte: it is delivered (R205). -/
theorem writesFirst_full {s : State} (sink : s.cfg.sink = .stream) {v : Byte} {vs : List Byte}
    (full : s.stg.length + 1 = s.params.segSize) (write : writeByte v s = pushSegment { s with stg := s.stg ++ [v] })
    (h : s.takes (v :: vs)) : WritesFirst s v vs := by
  obtain ⟨quiet, -, replies, fits⟩ := (takes_stream sink _).1 h
  rw [segmentsOf_cons_full full] at replies fits
  simp only [List.flatten_cons, List.length_append, List.length_cons, List.length_nil] at fits
  obtain ⟨rs, reply, rest⟩ := repliesOk_succ replies
  have sink' : (s.pushed [s.stg ++ [v]] []).cfg.sink = .stream := sink
  have one : s.wrote [v] = s.pushed [s.stg ++ [v]] [] := by
    rw [wrote_stream sink, segmentsOf_cons_full full, segmentsOf]
  constructor
  · rw [write, one, pushSegment_eq_sinkPush (s := { s with stg := s.stg ++ [v] }) sink (by simp) quiet,
      sinkPush_ok (s := { s with stg := s.stg ++ [v] }) reply (by simp; omega)]
    rfl
  · have counted : (s.pushed [s.stg ++ [v]] []).count.toNat = s.count.toNat + (s.stg.length + 1) := by
      rw [pushed_count, BitVec.toNat_add_of_lt (by simp; omega)]
      simp
      omega
    rw [one, takes_stream sink', pushed_stg, pushed_params, counted]
    exact ⟨quiet, by simp; omega, by simpa [State.repliesOk, reply] using rest, by omega⟩
  · rw [one, wrote_stream sink', wrote_stream sink, segmentsOf_cons_full full, pushed_stg, pushed_params, pushed_pushed]
    rfl

/-- WRITE_BYTE of the first of the bytes that an output takes (R202 to R205). -/
theorem writesFirst_of_takes {s : State} {v : Byte} {vs : List Byte} (h : s.takes (v :: vs)) : WritesFirst s v vs := by
  obtain ⟨sink, -⟩ | ⟨sink, e⟩ := writeByte_cases v s
  · exact writesFirst_fixed sink h
  · obtain ⟨-, room, -⟩ := (takes_stream sink _).1 h
    obtain ⟨staged, e'⟩ | ⟨full, e'⟩ | ⟨overrun, -⟩ := writeByteStream_cases v s
    · exact writesFirst_staged sink staged (e.trans e') h
    · exact writesFirst_full sink full (e.trans e') h
    · omega

/-! ### The stream one bit at a time -/

@[simp] theorem wrote_cfg (s : State) (vs : List Byte) : (s.wrote vs).cfg = s.cfg := by
  unfold State.wrote; split <;> rfl

/-- The packer's stream is that of another state where what is pending and the rest to emit make up the same bits. -/
theorem packed_congr {s u : State} {as bs : Bits} (hs : u.cfg = s.cfg) (stream : u.streamWith as = s.streamWith bs) :
    u.newBytes as = s.newBytes bs ∧ u.leftover as = s.leftover bs := by
  have done : u.bytesDone as = s.bytesDone bs := by
    have := congrArg List.length stream
    simp only [State.streamWith, List.length_append, pending_length] at this
    rw [State.bytesDone, this, State.bytesDone]
  simp only [State.newBytes, State.leftover, hs, stream, done, and_self]

/-- With nothing to emit, a clean packer is as it was (R30). -/
theorem emitted_nil {s : State} (clean : s.accClean = true) : s.emitted [] = s := by
  have none : s.bytesDone [] = 0 := Nat.div_eq_of_lt s.nb.isLt
  have hbytes : s.newBytes [] = [] := by rw [State.newBytes, none, packBytes]
  have hleft : s.leftover [] = s.pending := by simp [State.leftover, State.streamWith, none]
  have hacc := (accClean_iff_acc s).1 clean
  rw [emitted_eq_wrote, hbytes, wrote_nil, hleft, ← hacc, pending_length, BitVec.ofNat_toNat, BitVec.setWidth_eq,
    withAcc_self]

theorem placed_eq_withAcc (s : State) (b : Bool) :
    s.placed b = s.withAcc (placeBit s.cfg.bitOrder s.acc s.nb b) (s.nb + 1) := rfl

/-- The rest of a bit string is emitted from the state in which its first bit has been placed (R201). -/
theorem emitted_placed {s : State} (clean : s.accClean = true) (h : s.nb ≠ 7) (b : Bool) (bs : Bits) :
    (s.placed b).newBytes bs = s.newBytes (b :: bs) ∧ (s.placed b).emitted bs = s.emitted (b :: bs) := by
  have stream : (s.placed b).streamWith bs = s.streamWith (b :: bs) := by
    simp [State.streamWith, placed_pending clean h]
  obtain ⟨hbytes, hleft⟩ := packed_congr (s := s) (u := s.placed b) rfl stream
  refine ⟨hbytes, ?_⟩
  rw [emitted_eq_wrote, emitted_eq_wrote, hbytes, hleft, placed_eq_withAcc, withAcc_wrote, withAcc_withAcc, withAcc_cfg]

/-- A bit that fills the byte, as position 7, completes it: the first eight bits of the stream are a byte of their own
(R201). -/
theorem completed_stream {s t : State} (h : s.nb = 7) (hcfg : t.cfg = s.cfg) (empty : t.nb = 0) (b : Bool) (bs : Bits) :
    s.newBytes (b :: bs) = packByte s.cfg.bitOrder (s.pending ++ [b]) :: t.newBytes bs
      ∧ s.leftover (b :: bs) = t.leftover bs := by
  have hlen : (s.pending ++ [b]).length = 8 := by simp [h]
  have stream : s.streamWith (b :: bs) = (s.pending ++ [b]) ++ bs := by simp [State.streamWith]
  have rest : t.streamWith bs = bs := by simp [State.streamWith, pending_of_empty empty]
  have done : s.bytesDone (b :: bs) = t.bytesDone bs + 1 := by
    simp only [State.bytesDone, h, empty, List.length_cons]
    simp
    omega
  constructor
  · rw [State.newBytes, done, stream, packBytes, List.take_left' hlen, List.drop_left' hlen, State.newBytes, rest, hcfg]
  · rw [State.leftover, done, stream, State.leftover, rest, show 8 * (t.bytesDone bs + 1) = 8 + 8 * t.bytesDone bs by ring,
      ← List.drop_drop, List.drop_left' hlen]

/-- PUSHBIT of the first bit of a string that the output takes (R201). -/
theorem pushBit_of_room {s : State} (clean : s.accClean = true) {b : Bool} {bs : Bits} (room : s.room (b :: bs) = true) :
    ∃ t, pushBit b s = .ok t ∧ t.accClean = true ∧ t.room bs = true ∧ t.emitted bs = s.emitted (b :: bs) := by
  rw [room_iff_takes] at room
  obtain ⟨hnb, e⟩ | ⟨hnb, e⟩ := pushBit_cases b s
  · obtain ⟨hbytes, hemit⟩ := emitted_placed clean hnb b bs
    refine ⟨s.placed b, e, placed_accClean clean hnb b, ?_, hemit⟩
    rwa [room_iff_takes, hbytes, placed_eq_withAcc, withAcc_takes]
  · rw [placeBit_eq_packByte clean] at e
    generalize hv : packByte s.cfg.bitOrder (s.pending ++ [b]) = v at e
    obtain ⟨hbytes, hleft⟩ := completed_stream (t := (s.wrote [v]).withAcc 0 0) hnb (by simp) rfl b bs
    rw [hbytes, hv] at room
    obtain ⟨hwrite, htakes, -⟩ := writesFirst_of_takes (s := s.withAcc 0 0) room
    obtain ⟨-, -, hwrote⟩ := writesFirst_of_takes room
    rw [withAcc_wrote] at hwrite htakes
    refine ⟨_, e.trans hwrite, accClean_of_empty rfl, (room_iff_takes _ bs).2 htakes, ?_⟩
    rw [emitted_eq_wrote, emitted_eq_wrote, hbytes, hv, hleft, ← hwrote]
    simp

/-- EMIT of a bit string that the output takes (R200), by induction on the string. -/
theorem emitBits_of_room {s : State} (clean : s.accClean = true) {bs : Bits} (room : s.room bs = true) :
    emitBits bs s = .ok (s.emitted bs) ∧ (s.emitted bs).accClean = true := by
  induction bs generalizing s with
  | nil =>
    rw [emitted_nil clean]
    exact ⟨rfl, clean⟩
  | cons b bs ih =>
    obtain ⟨t, hpush, hclean, hroom, hemit⟩ := pushBit_of_room clean room
    rw [emitBits, hpush, ← hemit]
    exact ih hclean hroom

/-- Settles O30, by induction on the bit string. -/
theorem emitPacksCodeword : Obligations.EmitPacksCodeword := by
  intro cw s clean room
  obtain ⟨hemit, hclean⟩ := emitBits_of_room clean room
  exact ⟨congrArg settle hemit, hclean⟩

end Sys2Proof.Machine
end

section
/-! PROOFS. Transition sequences: what EXTRACT builds is well formed, and positions on a well-formed sequence keep their
order (40_transition_extractor.md R132, R133, 42_mode_encoder.md R172 to R174). -/

namespace Sys2Proof.Machine

theorem rising_iff (t : List Nat) : rising t = true ↔ t.Pairwise (· < ·) := by
  rw [← List.isChain_iff_pairwise]
  induction t with
  | nil => simp [rising]
  | cons a t ih =>
    cases t with
    | nil => simp [rising]
    | cons b t => simp [rising, ih]

theorem seqWf_iff (w : Nat) (t : List Nat) : seqWf w t = true ↔ t.Pairwise (· < ·) ∧ t.getLast? = some w := by
  simp [seqWf, rising_iff]

/-! ### EXTRACT -/

theorem extractFrom_ge {pixel : Nat → Colour} {n x : Nat} {prev : Colour} {e : Nat}
    (h : e ∈ extractFrom pixel n x prev) : x ≤ e := by
  induction n generalizing x prev with
  | zero => simp_all [extractFrom]
  | succ n ih =>
    unfold extractFrom at h
    split at h
    · exact Nat.le_of_succ_le (ih h)
    · obtain rfl | h := List.mem_cons.1 h
      · exact le_rfl
      · exact Nat.le_of_succ_le (ih h)

theorem extractFrom_rising (pixel : Nat → Colour) (n x : Nat) (prev : Colour) :
    (extractFrom pixel n x prev).Pairwise (· < ·) := by
  induction n generalizing x prev with
  | zero => simp [extractFrom]
  | succ n ih =>
    unfold extractFrom
    split
    · exact ih (x + 1) prev
    · exact List.pairwise_cons.2 ⟨fun _ h => extractFrom_ge h, ih (x + 1) (pixel x)⟩

/-- The boundary entry is the last one. -/
theorem extractFrom_getLast? (pixel : Nat → Colour) (n x : Nat) (prev : Colour) :
    (extractFrom pixel n x prev).getLast? = some (x + n) := by
  induction n generalizing x prev with
  | zero => simp [extractFrom]
  | succ n ih =>
    unfold extractFrom
    split
    · rw [ih]
      congr 1
      omega
    · rw [List.getLast?_cons, ih]
      simp only [Option.getD_some, Option.some.injEq]
      omega

theorem extractSeq_wf (pixel : Nat → Colour) (w : Nat) : seqWf w (extractSeq pixel w) = true :=
  (seqWf_iff w _).2 ⟨extractFrom_rising pixel w 0 .white, by simp [extractSeq, extractFrom_getLast?]⟩

/-! ### Positions -/

/-- A well-formed sequence ends in its width, and every other entry lies below it. -/
theorem le_of_mem_of_seqWf {w : Nat} {t : List Nat} (wf : seqWf w t = true) {x : Nat} (h : x ∈ t) : x ≤ w := by
  obtain ⟨hrise, hlast⟩ := (seqWf_iff w t).1 wf
  obtain ⟨init, rfl⟩ := List.getLast?_eq_some_iff.1 hlast
  obtain ⟨-, -, below⟩ := List.pairwise_append.1 hrise
  obtain h | h := List.mem_append.1 h
  · exact (below x h w (List.mem_singleton_self w)).le
  · exact (List.mem_singleton.1 h).le

theorem padded_le {w : Nat} {t : List Nat} (wf : seqWf w t = true) (i : Nat) : padded t w i ≤ w := by
  unfold padded
  by_cases h : i < t.length
  · rw [List.getD_eq_getElem _ _ h]
    exact le_of_mem_of_seqWf wf (List.getElem_mem h)
  · rw [List.getD_eq_default _ _ (by omega)]

theorem padded_le_succ {w : Nat} {t : List Nat} (wf : seqWf w t = true) (i : Nat) :
    padded t w i ≤ padded t w (i + 1) := by
  by_cases h : i + 1 < t.length
  · unfold padded
    rw [List.getD_eq_getElem _ _ (by omega), List.getD_eq_getElem _ _ h]
    obtain ⟨hrise, -⟩ := (seqWf_iff w t).1 wf
    exact (List.pairwise_iff_getElem.1 hrise i (i + 1) (by omega) h (by omega)).le
  · have : padded t w (i + 1) = w := List.getD_eq_default _ _ (by omega)
    rw [this]
    exact padded_le wf i

/-- The index that is found names an entry above `a0` (R172, R173). -/
theorem leastAbove_spec {a0 : Int} {test : Nat → Bool} {t : List Nat} {k i : Nat} (h : leastAbove a0 test t k = some i) :
    k ≤ i ∧ ∃ x, t[i - k]? = some x ∧ a0 < (x : Int) := by
  induction t generalizing k with
  | nil => simp [leastAbove] at h
  | cons x xs ih =>
    unfold leastAbove at h
    split at h
    · rename_i found
      cases h
      simp only [Bool.and_eq_true, decide_eq_true_eq] at found
      exact ⟨le_rfl, x, by simp, found.2⟩
    · obtain ⟨hki, y, hy, ha⟩ := ih h
      refine ⟨by omega, y, ?_, ha⟩
      rwa [show i - k = (i - (k + 1)) + 1 by omega, List.getElem?_cons_succ]

/-- A pair of changes lies right of a0, in order, and within the line (R174). -/
theorem changePair_ordered {w : Nat} {t : List Nat} (wf : seqWf w t = true) {a0 : Int} (ha : a0 < (w : Int))
    (test : Nat → Bool) :
    a0 < ((changePair t w a0 test).1 : Int) ∧ (changePair t w a0 test).1 ≤ (changePair t w a0 test).2
      ∧ (changePair t w a0 test).2 ≤ w := by
  unfold changePair
  split
  · rename_i i h
    obtain ⟨-, x, hx, hax⟩ := leastAbove_spec h
    have hx : padded t w i = x := by simp_all [padded]
    exact ⟨by rwa [hx], padded_le_succ wf i, padded_le wf (i + 1)⟩
  · exact ⟨ha, le_rfl, le_rfl⟩

/-- The runs of Horizontal mode have no negative length on a well-formed current line (R157, R184). -/
theorem runs_nonneg {s : State} (wf : seqWf s.W s.cur = true) (ha : s.a0 < (s.W : Int)) :
    0 ≤ firstRun s.a0 s.a1 ∧ 0 ≤ secondRun s.a1 s.a2 := by
  obtain ⟨hright, horder, -⟩ := changePair_ordered wf ha fun _ => true
  change s.a0 < (s.a1 : Int) at hright
  change s.a1 ≤ s.a2 at horder
  unfold firstRun secondRun
  omega

end Sys2Proof.Machine
end

section
/-! PROOFS. What an accepted ADD_LINE keeps of a session: the invariants between commands (10_state.md R41), and that it
raises DATA_OVERFLOW and IO_ERROR only (60_exceptions.md R253, R255). -/

namespace Sys2Proof.Machine

/-- What a line in progress keeps: the packer's invariant, and every register but A0 and COLOR that the packer leaves alone
and a later part of ADD_LINE reads (R171, R222). -/
structure LineKept (s t : State) : Prop where
  pack : PackInv t
  params : t.params = s.params
  cfg : t.cfg = s.cfg
  stateReg : t.stateReg = s.stateReg
  rows : t.rows = s.rows
  ref : t.ref = s.ref
  cur : t.cur = s.cur

theorem LineKept.trans {a b c : State} (hab : LineKept a b) (hbc : LineKept b c) : LineKept a c where
  pack := hbc.pack
  params := hbc.params.trans hab.params
  cfg := hbc.cfg.trans hab.cfg
  stateReg := hbc.stateReg.trans hab.stateReg
  rows := hbc.rows.trans hab.rows
  ref := hbc.ref.trans hab.ref
  cur := hbc.cur.trans hab.cur

/-- A0 and COLOR may be written after the packer has run. -/
theorem PackKept.lineKept {s t : State} (h : PackKept s t) (a0 : Int) (c : Colour) :
    LineKept s { t with a0 := a0, colour := c } := by
  obtain ⟨⟨hclean, hstaged, hunstaged⟩, frame⟩ := h
  obtain ⟨-, href, hcur, -⟩ := frame.positions
  exact ⟨⟨hclean, hstaged, hunstaged⟩, frame.params, frame.cfg, frame.stateReg, frame.rows, href, hcur⟩

/-- The width and the current buffer that the rest of a line finds are those that its start found. -/
theorem LineKept.cur_wf {s t : State} (h : LineKept s t) (wf : seqWf s.W s.cur = true) : seqWf t.W t.cur = true := by
  rw [h.cur]
  rwa [State.W, h.cfg]

/-! ### ENCODE_LINE -/

theorem emitRun_ensures {n : Int} (h : 0 ≤ n) (c : Colour) {s : State} (pack : PackInv s) :
    (emitRun n c s).Ensures (PackKept s) := by
  rw [emitRun_of_nonneg h]
  exact emitBits_ensures pack _

theorem passStep_ensures {s : State} (pack : PackInv s) : (passStep s).Ensures (LineKept s) :=
  (emitBits_ensures pack _).andThen fun t ht => ht.lineKept _ t.colour

theorem verticalStep_ensures {s : State} (pack : PackInv s) (m : Mode) : (verticalStep m s).Ensures (LineKept s) :=
  (emitBits_ensures pack _).andThen fun _ ht => ht.lineKept _ _

/-- Horizontal raises nothing of its own, because no run is negative (R157). -/
theorem horizontalStep_ensures {s : State} (pack : PackInv s) (wf : seqWf s.W s.cur = true) (ha : s.a0 < (s.W : Int)) :
    (horizontalStep s).Ensures (LineKept s) := by
  obtain ⟨hfirst, hsecond⟩ := runs_nonneg wf ha
  exact (emitBits_ensures pack _).andThen fun t ht =>
    (emitRun_ensures hfirst _ ht.1).andThen fun u hu =>
      (emitRun_ensures hsecond _ hu.1).andThen fun v hv => ((ht.trans hu).trans hv).lineKept _ v.colour

theorem codingStep_ensures {s : State} (pack : PackInv s) (wf : seqWf s.W s.cur = true) (ha : s.a0 < (s.W : Int)) :
    (codingStep s).Ensures (LineKept s) := by
  rw [codingStep_eq_modeStep]
  cases selectMode s.a1 s.b1 s.b2 with
  | pass => exact passStep_ensures pack
  | horizontal => exact horizontalStep_ensures pack wf ha
  | _ => exact verticalStep_ensures pack _

theorem encodeLoop_ensures (fuel : Nat) {s : State} (pack : PackInv s) (wf : seqWf s.W s.cur = true) :
    (encodeLoop fuel s).Ensures (LineKept s) := by
  have ended : LineKept s s := pack.refl.lineKept s.a0 s.colour
  induction fuel generalizing s with
  | zero =>
    unfold encodeLoop
    split
    · trivial
    · exact ended
  | succ fuel ih =>
    unfold encodeLoop
    split
    · rename_i ha
      exact (codingStep_ensures pack wf ha).andThen fun u hu =>
        (ih hu.pack (hu.cur_wf wf) (hu.pack.refl.lineKept u.a0 u.colour)).mono fun _ _ => hu.trans
    · exact ended

theorem encodeLine_ensures {s : State} (pack : PackInv s) (wf : seqWf s.W s.cur = true) :
    (encodeLine s).Ensures (LineKept s) := by
  have started : LineKept s { s with a0 := -1, colour := .white } := pack.refl.lineKept _ _
  exact (encodeLoop_ensures _ started.pack wf).mono fun _ _ => started.trans

/-! ### The end of the image -/

/-- What the end of a row leaves: COMPLETE with nothing pending on the last row, and STATE as it was on another (R222). -/
structure RowEnd (s t : State) : Prop where
  pack : PackInv t
  params : t.params = s.params
  cfg : t.cfg = s.cfg
  rows : t.rows = s.rows
  ref : t.ref = s.ref
  last : s.rows = s.cfg.height → t.stateReg = .complete ∧ t.nb = 0 ∧ t.stg = []
  other : s.rows ≠ s.cfg.height → t.stateReg = s.stateReg

theorem finishRow_ensures {s : State} (pack : PackInv s) : (finishRow s).Ensures (RowEnd s) := by
  unfold finishRow
  split
  · rename_i hlast
    refine (emitEofb_ensures pack).andThen fun t ht => (flushPartial_ensures ht.1).andThen fun u hu => ?_
    obtain ⟨kept, hnb, hstg⟩ := hu
    obtain ⟨⟨hclean, hstaged, hunstaged⟩, frame⟩ := ht.trans kept
    obtain ⟨-, href, -⟩ := frame.positions
    exact ⟨⟨hclean, hstaged, hunstaged⟩, frame.params, frame.cfg, frame.rows, href, fun _ => ⟨rfl, hnb, hstg⟩,
      fun hother => absurd hlast hother⟩
  · rename_i hother
    exact ⟨pack, rfl, rfl, rfl, rfl, fun hlast => absurd hlast hother, fun _ => rfl⟩

/-! ### ADD_LINE -/

theorem LiveInv.packInv {s : State} (h : LiveInv s) : PackInv s := ⟨h.acc, h.staged, h.unstaged⟩

/-- A scanline in LINE and its transition sequence in CUR (R132, R222). -/
theorem extractLine_ensures {s : State} (pack : PackInv s) (width : s.W ≤ s.params.maxTransitions) :
    (extractLine s).Ensures fun t => ∃ seq, seqWf s.W seq = true ∧ t = s.setCur seq ∧ PackInv t := by
  obtain ⟨wide, -⟩ | ⟨-, -, e⟩ | ⟨-, -, e⟩ := extractLine_cases s
  · omega
  · rw [e]
    trivial
  · rw [e]
    refine ⟨_, extractSeq_wf _ _, rfl, ?_, by simpa using pack.staged, by simpa using pack.unstaged⟩
    have clean := pack.clean
    rw [accClean_iff] at clean ⊢
    simpa using clean

@[simp] theorem swapBuffers_ref (s : State) : (swapBuffers s).ref = s.cur := by
  cases h : s.refsel <;> simp [swapBuffers, State.ref, State.cur, h]

/-- A session that accepts a line has a row left, and counts it (R27, R41). -/
theorem LiveInv.row_left {s : State} (live : LiveInv s)
    (accepting : s.stateReg = .initialized ∨ s.stateReg = .encoding) :
    s.rows.toNat < s.cfg.height.toNat ∧ (s.rows + 1).toNat = s.rows.toNat + 1 := by
  have notLast : s.rows ≠ s.cfg.height := fun hlast => by
    simp [live.completeIff.2 hlast] at accepting
  have below : s.rows.toNat < s.cfg.height.toNat :=
    lt_of_le_of_ne live.rowsLe fun hc => notLast (BitVec.eq_of_toNat_eq hc)
  have := s.cfg.height.isLt
  exact ⟨below, BitVec.toNat_add_of_lt (by simp; omega)⟩

/-- After a row STATE is COMPLETE or ENCODING, by whether it was the last one. -/
theorem RowEnd.state_cases {u t : State} (h : RowEnd u t) (hstate : u.stateReg = .encoding) :
    (t.stateReg = .complete ∧ t.rows = t.cfg.height ∧ t.nb = 0 ∧ t.stg = [])
    ∨ (t.stateReg = .encoding ∧ t.rows ≠ t.cfg.height) := by
  rw [h.rows, h.cfg]
  by_cases hlast : u.rows = u.cfg.height
  · obtain ⟨hcomplete, hnb, hstg⟩ := h.last hlast
    exact .inl ⟨hcomplete, hlast, hnb, hstg⟩
  · exact .inr ⟨(h.other hlast).trans hstate, hlast⟩

/-- What an accepted line has made of the session `s` when the end of its row comes: it is counted, and its transition
sequence is the reference (R222, R224). -/
structure RowCoded (s u : State) : Prop where
  params : u.params = s.params
  cfg : u.cfg = s.cfg
  stateReg : u.stateReg = .encoding
  rows : u.rows = s.rows + 1
  ref : seqWf s.W u.ref = true

/-- A row that a session has accepted, coded and ended leaves the session's invariants (R41). -/
theorem RowEnd.liveInv {s u t : State} (live : LiveInv s)
    (accepting : s.stateReg = .initialized ∨ s.stateReg = .encoding) (coded : RowCoded s u) (h : RowEnd u t) :
    LiveInv t ∧ (t.stateReg = .encoding ∨ t.stateReg = .complete) := by
  obtain ⟨below, next⟩ := live.row_left accepting
  have hcfg : t.cfg = s.cfg := h.cfg.trans coded.cfg
  have hparams : t.params = s.params := h.params.trans coded.params
  have hW : t.W = s.W := congrArg (fun c : CfgRegs => c.width.toNat) hcfg
  have counted : t.rows.toNat = s.rows.toNat + 1 := by rw [h.rows, coded.rows, next]
  have begun : t.rows ≠ 0 := fun hz => by simp [hz] at counted
  have moved := h.state_cases coded.stateReg
  refine ⟨{
    widthPos := hW ▸ live.widthPos
    widthMax := by rw [hW, hparams]; exact live.widthMax
    heightPos := hcfg ▸ live.heightPos
    rowsLe := by rw [counted, hcfg]; exact below
    completeIff := ?_
    initializedIff := ?_
    reference := by rw [hW, h.ref]; exact coded.ref
    acc := h.pack.clean
    staged := h.pack.staged
    unstaged := h.pack.unstaged
    flushed := ?_ }, ?_⟩
  · obtain ⟨hs, hr, -⟩ | ⟨hs, hr⟩ := moved <;> simp only [hs, hr, reduceCtorEq]
  · obtain ⟨hs, -⟩ | ⟨hs, -⟩ := moved <;> simp only [hs, begun, reduceCtorEq]
  · obtain ⟨-, -, hflushed⟩ | ⟨hs, -⟩ := moved
    · exact fun _ => hflushed
    · simp [hs]
  · exact moved.symm.imp And.left And.left

/-- The body of an accepted ADD_LINE in a session (R222): it raises only what an output raises, and at its end the
session's invariants hold. -/
theorem addLineBody_ensures {s : State} (live : LiveInv s)
    (accepting : s.stateReg = .initialized ∨ s.stateReg = .encoding) (line : List Byte) :
    (addLineBody line s).Ensures fun t => LiveInv t ∧ (t.stateReg = .encoding ∨ t.stateReg = .complete) := by
  have pack : PackInv { s with stateReg := .encoding, line := line } := ⟨live.acc, live.staged, live.unstaged⟩
  refine (extractLine_ensures pack live.widthMax).andThen fun x hx => ?_
  obtain ⟨seq, wf, rfl, xpack⟩ := hx
  refine (encodeLine_ensures xpack (by simpa [State.W] using wf)).andThen fun u hu => ?_
  obtain ⟨⟨uclean, ustaged, uunstaged⟩, hparams, hcfg, hstate, hrows, -, hcur⟩ := hu
  have counted : PackInv { swapBuffers u with rows := u.rows + 1 } := ⟨uclean, ustaged, uunstaged⟩
  have ref : (swapBuffers u).ref = seq := by rw [swapBuffers_ref, hcur, setCur_cur]
  have coded : RowCoded s { swapBuffers u with rows := u.rows + 1 } :=
    ⟨by simpa using hparams, by simpa using hcfg, by simpa using hstate, by simpa using hrows, ref ▸ wf⟩
  exact (finishRow_ensures counted).mono fun _ _ ended => ended.liveInv live accepting coded

end Sys2Proof.Machine
end

section
/-! PROOFS. O52, O53: the invariant of a block that is driven by commands and the reset line holds at reset, and every step
keeps it (10_state.md R41, 44_session_commands.md R220). -/

namespace Sys2Proof.Machine

/-! ### What moves keep of a session -/

/-- In STREAM mode COUNT counts the bytes of the segments delivered since INIT (R29, R63). -/
def State.streamCounted (s : State) : Prop :=
  s.deliveredAtInit ≤ s.delivered.length ∧ (s.delivered.drop s.deliveredAtInit).flatten.length = s.count.toNat

theorem Move.err_deliveredAtInit {s t : State} (m : Move s t) : t.err = s.err ∧ t.deliveredAtInit = s.deliveredAtInit := by
  cases m with
  | work w => exact ⟨w.err, w.deliveredAtInit⟩
  | tick n h => exact ⟨rfl, rfl⟩
  | store v sink room => exact ⟨rfl, rfl⟩
  | push sink staged reply fits => simp
  | failedPush sink reply => simp

theorem Moves.err_deliveredAtInit {s t : State} (h : Moves s t) :
    t.err = s.err ∧ t.deliveredAtInit = s.deliveredAtInit := by
  induction h with
  | refl => exact ⟨rfl, rfl⟩
  | tail _ m ih =>
    obtain ⟨herr, hinit⟩ := m.err_deliveredAtInit
    exact ⟨herr.trans ih.1, hinit.trans ih.2⟩

/-- What is delivered along the moves is counted along them. -/
theorem Moves.streamCounted {s t : State} (h : Moves s t) (sink : s.cfg.sink = .stream) (hs : s.streamCounted) :
    t.streamCounted := by
  obtain ⟨segs, hd⟩ := h.delivery
  obtain ⟨-, hinit⟩ := Moves.err_deliveredAtInit h
  obtain ⟨hle, hcount⟩ := hs
  constructor
  · rw [hinit, hd.delivered, List.length_append]
    omega
  · rw [hinit, hd.delivered, List.drop_append_of_le_length hle, List.flatten_append, List.length_append, hcount,
      hd.stream sink]

/-! ### The states between commands -/

/-- Without a session nothing is asked of the registers but STATE, ERR and COUNT (R44). -/
theorem sessionInv_of_uninit {s : State} (core : CoreInv s) (state : s.stateReg = .uninit) (err : s.err = .success)
    (count : s.count = 0) (hostOnly : ∀ w ∈ s.host, hostPort w.port = true) : SessionInv s where
  core := core
  errNone _ := err
  errCause failed := by simp [state] at failed
  uninitCount _ := count
  streamCount session := absurd state session
  session live := by simp [State.live, state] at live
  hostOnly := hostOnly

/-- Settles O52: at reset there is no session (R44). -/
theorem sessionInvariantAtReset : Obligations.SessionInvariantAtReset :=
  sessionInv_of_uninit ⟨rfl, reset_out_wf, fun _ => le_rfl⟩ rfl rfl rfl fun _ h => absurd h List.not_mem_nil

/-- The result and the words still to come may change, as long as the words are a host's (R112, R220). -/
theorem SessionInv.withResult {s : State} (h : SessionInv s) (rc : ErrKind) (data : BitVec 32) {ws : List PortWord}
    (hostOnly : ∀ w ∈ ws, hostPort w.port = true) : SessionInv { s with rc := rc, data := data, host := ws } where
  core := ⟨h.core.params, h.core.memory, h.core.fill⟩
  errNone := h.errNone
  errCause := h.errCause
  uninitCount := h.uninitCount
  streamCount := h.streamCount
  session live := by
    obtain ⟨hw, hmax, hh, hrows, hcomplete, hinit, href, hacc, hstaged, hunstaged, hflushed⟩ := h.session live
    exact ⟨hw, hmax, hh, hrows, hcomplete, hinit, href, hacc, hstaged, hunstaged, hflushed⟩
  hostOnly := hostOnly

theorem SessionInv.answer {s : State} (h : SessionInv s) (rc : ErrKind) (data : BitVec 32) :
    SessionInv (s.answer rc data) :=
  h.withResult rc data h.hostOnly

/-! ### INIT and reset -/

theorem hardReset_sessionInv {s : State} (core : CoreInv s) (hostOnly : ∀ w ∈ s.host, hostPort w.port = true) :
    SessionInv (hardReset s) :=
  sessionInv_of_uninit ((hardReset_restarted s).coreInv core) rfl rfl rfl hostOnly

/-- A refused INIT ends the session as hardware reset does (R44, R221). -/
theorem unspecifyAll_sessionInv {s : State} (core : CoreInv s) (hostOnly : ∀ w ∈ s.host, hostPort w.port = true) :
    SessionInv (unspecifyAll s) :=
  sessionInv_of_uninit (Restarted.coreInv (by constructor <;> rfl) core) rfl rfl rfl hostOnly

/-- A session begins with no rows, nothing pending, nothing staged and an all-white reference (R221). -/
theorem startSession_liveInv {s : State} {c : CfgRegs} (core : CoreInv s) (widthPos : 1 ≤ c.width.toNat)
    (widthMax : c.width.toNat ≤ s.params.maxTransitions) (heightPos : 1 ≤ c.height.toNat) :
    LiveInv (startSession c s) where
  widthPos := widthPos
  widthMax := widthMax
  heightPos := heightPos
  rowsLe := Nat.zero_le _
  completeIff :=
    ⟨fun complete => by simp at complete, fun (none : 0 = c.height) => by simp [← none] at heightPos⟩
  initializedIff := by simp
  reference := by simp [State.ref, State.W, seqWf, rising]
  acc := accClean_of_empty rfl
  staged := by
    have := core.params
    simp only [paramsWf, Bool.and_eq_true, decide_eq_true_eq] at this
    simpa using Nat.pos_of_ne_zero (by omega)
  unstaged _ := rfl
  flushed complete := by simp at complete

theorem startSession_sessionInv {s : State} {c : CfgRegs} (core : CoreInv s)
    (hostOnly : ∀ w ∈ s.host, hostPort w.port = true) (live : LiveInv (startSession c s)) :
    SessionInv (startSession c s) where
  core := Restarted.coreInv (by constructor <;> rfl) core
  errNone _ := rfl
  errCause failed := by simp at failed
  uninitCount _ := rfl
  streamCount _ _ := by simp
  session _ := live
  hostOnly := hostOnly

theorem exec_init_sessionInv {width : BitVec 16} {height : BitVec 32} {bitOrder sink : BitVec 8} {cap : BitVec 32}
    {s t : State} (h : SessionInv s) (ht : exec (.init width height bitOrder sink cap) s = .next t) : SessionInv t := by
  obtain ⟨legal, e⟩ | ⟨-, e⟩ := exec_init_cases width height bitOrder sink cap s <;> cases ht.symm.trans e
  · obtain ⟨widthPos, widthMax, heightPos, -⟩ := initLegal_iff.1 legal
    have live := startSession_liveInv (c := initCfg width height bitOrder sink cap) h.core widthPos widthMax heightPos
    exact (startSession_sessionInv h.core h.hostOnly live).answer _ _
  · exact (unspecifyAll_sessionInv h.core h.hostOnly).answer _ _

/-! ### ADD_LINE -/

/-- A raise in a session, of a kind that an output raises: FAILED with the kind in ERR, COUNT and CFG kept (R259). -/
theorem takeError_sessionInv {s u : State} (h : SessionInv s) (session : s.stateReg ≠ .uninit) (moves : Moves s u)
    {e : ErrKind} (kind : e = .dataOverflow ∨ e = .ioError) : SessionInv (takeError e u) where
  core := takeError_coreInv e (moves.coreInv h.core)
  errNone failed := absurd rfl failed
  errCause _ := kind
  uninitCount uninit := by simp at uninit
  streamCount _ sink := moves.streamCounted (by simpa [moves.kept.cfg] using sink)
    (h.streamCount session (by simpa [moves.kept.cfg] using sink))
  session live := by simp [State.live] at live
  hostOnly := (Moves.kept moves).host ▸ h.hostOnly

/-- An accepted line that comes to its end (R222). -/
theorem sessionInv_of_moves {s t : State} (h : SessionInv s) (session : s.stateReg ≠ .uninit) (ok : s.stateReg ≠ .failed)
    (moves : Moves s t) (live : LiveInv t) (state : t.stateReg = .encoding ∨ t.stateReg = .complete) : SessionInv t where
  core := moves.coreInv h.core
  errNone _ := (Moves.err_deliveredAtInit moves).1.trans (h.errNone ok)
  errCause failed := by simp [failed] at state
  uninitCount uninit := by simp [uninit] at state
  streamCount _ sink := moves.streamCounted (moves.kept.cfg ▸ sink) (h.streamCount session (moves.kept.cfg ▸ sink))
  session _ := live
  hostOnly := (Moves.kept moves).host ▸ h.hostOnly

/-- An accepted ADD_LINE: it comes to its end, it is cut by the reset line, or it raises what an output raises (R222,
R227, R258). -/
theorem addLine_accepted_sessionInv {s t : State} (h : SessionInv s) (live : LiveInv s)
    (accepting : s.stateReg = .initialized ∨ s.stateReg = .encoding) {line : List Byte}
    (ht : settleCommand (addLineBody line s) = .next t) : SessionInv t := by
  have session : s.stateReg ≠ .uninit := fun hs => by simp [hs] at accepting
  have ok : s.stateReg ≠ .failed := fun hs => by simp [hs] at accepting
  have moves := addLineBody_movesFrom line s
  have ensures := addLineBody_ensures live accepting line
  unfold settleCommand at ht
  cases hbody : addLineBody line s with
  | ok u =>
    rw [hbody] at moves ensures ht
    cases ht
    obtain ⟨ulive, ustate⟩ := ensures
    exact (sessionInv_of_moves h session ok moves ulive ustate).answer _ _
  | raised e u =>
    rw [hbody] at moves ensures ht
    cases ht
    exact takeError_sessionInv h session moves ensures
  | cut u =>
    rw [hbody] at moves ht
    cases ht
    obtain ⟨moves, -⟩ := moves
    exact hardReset_sessionInv (moves.coreInv h.core) (moves.kept.host ▸ h.hostOnly)
  | stop f =>
    rw [hbody] at ht
    cases ht
  | refuse x =>
    rw [hbody] at ht
    cases ht

theorem exec_addLine_sessionInv {line : List Byte} {s t : State} (h : SessionInv s)
    (ht : exec (.addLine line) s = .next t) : SessionInv t := by
  change execAddLine line s = .next t at ht
  unfold execAddLine at ht
  split at ht
  case h_1 | h_2 | h_3 =>
    cases ht
    exact h.answer _ _
  case h_4 hs => exact addLine_accepted_sessionInv h (h.session (by simp [State.live, hs])) (.inl hs) ht
  case h_5 hs => exact addLine_accepted_sessionInv h (h.session (by simp [State.live, hs])) (.inr hs) ht

/-! ### One step -/

theorem exec_hostOp_sessionInv {i : Instr} {s t : State} (hi : isHostOp i = true) (h : SessionInv s)
    (ht : exec i s = .next t) : SessionInv t := by
  cases i with
  | init width height bitOrder sink cap => exact exec_init_sessionInv h ht
  | addLine line => exact exec_addLine_sessionInv h ht
  | getOutputSize =>
    cases ht
    exact h.answer _ _
  | getError =>
    cases ht
    exact h.answer _ _
  | reset =>
    cases ht
    exact hardReset_sessionInv h.core h.hostOnly
  | _ => cases hi

/-- A word that a host can issue stands for an operation that a host can start (R110, R220). -/
theorem isHostOp_of_decode {w : PortWord} {i : Instr} (hw : hostPort w.port = true) (hd : decode w = .ok i) :
    isHostOp i = true := by
  unfold decode at hd
  cases hp : w.port with
  | command =>
    simp only [hp] at hd
    unfold decodeCommand at hd
    split at hd
    · split at hd <;> cases hd
      rfl
    · split at hd <;> cases hd
      rfl
    all_goals cases hd <;> rfl
  | resetLine =>
    simp only [hp] at hd
    unfold decodeBare at hd
    split at hd <;> cases hd
    rfl
  | _ => simp [hp, hostPort] at hw

/-- Settles O53: a step idles, or runs an operation that a host can start, and each of these keeps the invariant. -/
theorem sessionInvariantIsKept : Obligations.SessionInvariantIsKept := by
  intro s t h ht
  cases hwords : s.host with
  | nil =>
    cases (step_of_no_word hwords).symm.trans ht
    exact h
  | cons w ws =>
    have hostOnly := h.hostOnly
    rw [hwords, List.forall_mem_cons] at hostOnly
    obtain ⟨hw, hws⟩ := hostOnly
    cases hd : decode w with
    | ok i =>
      rw [step_of_decode_ok hwords hd] at ht
      exact exec_hostOp_sessionInv (isHostOp_of_decode hw hd) (h.withResult s.rc s.data hws) ht
    | bad e => cases (step_of_decode_bad hwords hd).symm.trans ht

end Sys2Proof.Machine
end

section
/-! PROOFS. O56: the bytes of OUT below COUNT are final (20_memory.md R62, R69, R72). -/

namespace Sys2Proof.Machine

/-- From `s` to `t` OUT changes at most from the old COUNT up to the new one. -/
def OutFinal (s t : State) : Prop :=
  ∀ a, a < s.count.toNat ∨ t.count.toNat ≤ a → memRead t.out a = memRead s.out a

theorem outFinal_of_out_eq {s t : State} (h : t.out = s.out) : OutFinal s t := fun a _ => by rw [h]

/-- COUNT does not fall on the way, so what one part leaves alone the other finds untouched. -/
theorem OutFinal.trans {s u t : State} (hsu : OutFinal s u) (hut : OutFinal u t)
    (below : s.count.toNat ≤ u.count.toNat) (above : u.count.toNat ≤ t.count.toNat) : OutFinal s t := fun a ha =>
  calc memRead t.out a
    _ = memRead u.out a := hut a (ha.imp (lt_of_lt_of_le · below) id)
    _ = memRead s.out a := hsu a (ha.imp id above.trans)

/-- A move stores at most one byte, at COUNT, and counts it (R203). -/
theorem Move.outFinal {s t : State} (m : Move s t) : OutFinal s t := by
  cases m with
  | work w => exact outFinal_of_out_eq w.out
  | tick n h => exact outFinal_of_out_eq rfl
  | store v sink room =>
    intro a ha
    have := s.cfg.cap.isLt
    have counted : (s.count + 1).toNat = s.count.toNat + 1 := BitVec.toNat_add_of_lt (by simp; omega)
    have elsewhere : a ≠ s.count.toNat := by
      simp only [counted] at ha
      omega
    exact memRead_memWrite_other s.out v elsewhere
  | push sink staged reply fits => exact outFinal_of_out_eq (by simp)
  | failedPush sink reply => exact outFinal_of_out_eq (by simp)

theorem Moves.outFinal {s t : State} (h : Moves s t) : OutFinal s t := by
  induction h with
  | refl => exact outFinal_of_out_eq rfl
  | tail moves m ih => exact ih.trans m.outFinal (Moves.count_le moves) m.count_le

/-- A raise keeps OUT and COUNT (R259), and without a reset to come nothing else ends the moves early. -/
theorem Ended.outFinal {s t : State} (h : Ended s t) (hs : s.resetIn = none) : OutFinal s t := by
  cases h with
  | done moves => exact moves.outFinal
  | raised e moves =>
    have kept := Moves.outFinal moves
    exact kept
  | cut moves due => simp [Moves.resetIn_none moves hs] at due

/-- Settles O56, along the moves of the operation; a restart leaves OUT alone. -/
theorem outputBytesAreFinal : Obligations.OutputBytesAreFinal :=
  ⟨fun _ _ _ a hi hs h => (exec_ended hi h).outFinal hs a, fun _ _ _ hi h => (exec_restarted hi h).out⟩

end Sys2Proof.Machine
end

section
/-! PROOFS. O35, O48: where a stream bit stands in the packed bytes, and the two bit orders as mirror images of each other
(20_memory.md R65, R66, 44_session_commands.md R234, 95_test_vectors.md R290). -/

namespace Sys2Proof.Machine

/-! ### Packed bytes -/

/-- Byte `k` of a packed stream packs the eight bits from bit `8 * k` on (R207). -/
theorem getElem?_packBytes (order : BitOrder) {n k : Nat} (h : k < n) (bs : Bits) :
    (packBytes order n bs)[k]? = some (packByte order ((bs.drop (8 * k)).take 8)) := by
  induction k generalizing n bs with
  | zero =>
    obtain ⟨n, rfl⟩ := Nat.exists_eq_succ_of_ne_zero (Nat.ne_of_gt h)
    simp [packBytes]
  | succ k ih =>
    obtain ⟨n, rfl⟩ := Nat.exists_eq_succ_of_ne_zero (Nat.ne_zero_of_lt h)
    rw [packBytes, List.getElem?_cons_succ, ih (Nat.lt_of_succ_lt_succ h), List.drop_drop, Nat.mul_succ, Nat.add_comm]

theorem pack_length (order : BitOrder) (bs : Bits) : (pack order bs).length = (bs.length + 7) / 8 :=
  packBytes_length order _ bs

/-- Stream bit `n` stands in byte `n / 8`, at the place of `n % 8` in the bit order (R65, R66). -/
theorem pack_places_bit (order : BitOrder) {bs : Bits} {n : Nat} {b : Bool} (h : bs[n]? = some b) :
    ∃ v, (pack order bs)[n / 8]? = some v ∧ v.getLsbD (bitPos order (n % 8)) = b := by
  obtain ⟨hn, -⟩ := List.getElem?_eq_some_iff.1 h
  have inside : n / 8 < ceil8 bs.length := by unfold ceil8; omega
  have within : n % 8 < 8 := Nat.mod_lt n (by decide)
  refine ⟨_, getElem?_packBytes order inside bs, ?_⟩
  rw [getLsbD_packByte order _ within, List.getD_eq_getElem?_getD, List.getElem?_take_of_lt within, List.getElem?_drop,
    Nat.div_add_mod, h, Option.getD_some]

/-! ### The other bit order -/

theorem getLsbD_rev8 (b : Byte) {i : Nat} (h : i < 8) : (rev8 b).getLsbD i = b.getLsbD (7 - i) := by
  rw [rev8, BitVec.getLsbD_reverse, BitVec.getMsbD_eq_getLsbD, decide_eq_true h, Bool.true_and]

/-- Reversed, a byte holds pixel or stream bit `j` where the other bit order has it (R65, R66, R131). -/
theorem getLsbD_rev8_bitPos (b : Byte) {j : Nat} (h : j < 8) :
    (rev8 b).getLsbD (bitPos .lsbFirst j) = b.getLsbD (bitPos .msbFirst j) :=
  getLsbD_rev8 b h

theorem rev8_zero : rev8 0 = 0 := by decide

theorem packByte_lsbFirst (bs : Bits) : packByte .lsbFirst bs = rev8 (packByte .msbFirst bs) :=
  byte_ext .lsbFirst fun j hj => by
    rw [getLsbD_packByte _ _ hj, getLsbD_rev8_bitPos _ hj, getLsbD_packByte _ _ hj]

theorem packBytes_lsbFirst (n : Nat) (bs : Bits) : packBytes .lsbFirst n bs = (packBytes .msbFirst n bs).map rev8 := by
  induction n generalizing bs with
  | zero => rfl
  | succ n ih => simp [packBytes, packByte_lsbFirst, ih]

theorem pack_lsbFirst (bs : Bits) : pack .lsbFirst bs = (pack .msbFirst bs).map rev8 := packBytes_lsbFirst _ bs

/-- Settles O35, from the places of the bits of one byte. -/
theorem packPlacesStreamBits : Obligations.PackPlacesStreamBits := by
  refine fun bs => ⟨fun order n b h => ?_, fun order => pack_length order bs, pack_lsbFirst bs,
    fun b i => getLsbD_rev8 b⟩
  cases order with
  | msbFirst => exact pack_places_bit .msbFirst h
  | lsbFirst => exact pack_places_bit .lsbFirst h

/-- A scanline with its bytes reversed shows the same pixels in the other bit order (R131, R290). -/
theorem pix_map_rev8 (line : List Byte) (x : Nat) : pix .lsbFirst (line.map rev8) x = pix .msbFirst line x := by
  have byte : (line.map rev8).getD (x / 8) 0 = rev8 (line.getD (x / 8) 0) := by
    rw [← List.getD_map (f := rev8), rev8_zero]
  have within : x % 8 < 8 := Nat.mod_lt x (by decide)
  rw [pix, pix, byte, getLsbD_rev8_bitPos _ within]

theorem lineSeq_map_rev8 (w : Nat) (line : List Byte) :
    lineSeq .lsbFirst w (line.map rev8) = lineSeq .msbFirst w line :=
  congrArg (extractSeq · w) (funext (pix_map_rev8 line))

/-- The stream does not depend on the bit order of the input (R234). -/
theorem rowsBits_map_rev8 (w : Nat) (ref : List Nat) (lines : List (List Byte)) :
    rowsBits .lsbFirst w ref (lines.map (List.map rev8)) = rowsBits .msbFirst w ref lines := by
  induction lines generalizing ref with
  | nil => rfl
  | cons line lines ih => simp only [List.map_cons, rowsBits, lineSeq_map_rev8, ih]

/-- Settles O48: the two bit orders make the same stream, and pack it into mirrored bytes. -/
theorem bitOrderReversesOutput : Obligations.BitOrderReversesOutput := by
  intro p w lines
  calc g4 p .lsbFirst w (lines.map (List.map rev8))
    _ = pack .lsbFirst (imageBits p .msbFirst w lines) := by rw [g4, imageBits, rowsBits_map_rev8, imageBits]
    _ = (g4 p .msbFirst w lines).map rev8 := pack_lsbFirst _

end Sys2Proof.Machine
end

section
/-! PROOFS. O14, O15: what ADD_LINE reads of its operand (20_memory.md R61, 44_session_commands.md R222). Once EXTRACT has
run nothing reads the LINE space, so the rest of the command is the same for every content of it. -/

namespace Sys2Proof.Machine

/-- An accepted ADD_LINE runs its body (R222). -/
theorem exec_addLine_accepted {s : State} (h : s.stateReg = .initialized ∨ s.stateReg = .encoding) (line : List Byte) :
    exec (.addLine line) s = settleCommand (addLineBody line s) := by
  change execAddLine line s = _
  obtain h | h := h <;> simp only [execAddLine, h]

theorem extractLine_short {s : State} (width : s.W ≤ s.params.maxTransitions) (short : s.line.length < ceil8 s.W) :
    extractLine s = .refuse .lineTooShort := by
  obtain ⟨wide, -⟩ | ⟨-, -, e⟩ | ⟨-, enough, -⟩ := extractLine_cases s
  · omega
  · exact e
  · omega

/-- Settles O14: EXTRACT refuses, and with it the command. -/
theorem addLineRefusesShortLine : Obligations.AddLineRefusesShortLine := by
  intro line s accepting width short
  rw [exec_addLine_accepted accepting, addLineBody,
    extractLine_short (s := { s with stateReg := .encoding, line := line }) width short]
  rfl

/-! ### Operations that do not read LINE -/

/-- The state with other bytes in LINE. -/
def State.withLine (s : State) (line : List Byte) : State := { s with line := line }

/-- The course of an operation with other bytes in LINE. -/
def Res.withLine (line : List Byte) : Res → Res
  | .ok s => .ok (s.withLine line)
  | .raised e s => .raised e (s.withLine line)
  | .cut s => .cut (s.withLine line)
  | .stop f => .stop f
  | .refuse x => .refuse x

/-- The operation neither reads nor writes LINE. -/
def LineBlind (op : State → Res) : Prop := ∀ s line, op (s.withLine line) = (op s).withLine line

theorem Res.withLine_andThen {k : State → Res} (hk : LineBlind k) (r : Res) (line : List Byte) :
    (r.withLine line).andThen k = (r.andThen k).withLine line := by
  cases r with
  | ok s => exact hk s line
  | _ => rfl

theorem LineBlind.andThen {op k : State → Res} (hop : LineBlind op) (hk : LineBlind k) :
    LineBlind fun s => (op s).andThen k := fun s line => by
  simp only [hop s line, Res.withLine_andThen hk]

theorem LineBlind.ite {p : State → Prop} [DecidablePred p] {yes no : State → Res}
    (test : ∀ s line, p (s.withLine line) ↔ p s) (hyes : LineBlind yes) (hno : LineBlind no) :
    LineBlind fun s => if p s then yes s else no s := fun s line => by
  by_cases h : p s
  · simp only [test, h, if_true, hyes s line]
  · simp only [test, h, if_false, hno s line]

theorem lineBlind_ok : LineBlind Res.ok := fun _ _ => rfl

theorem outputTick_lineBlind : LineBlind outputTick := fun s line => by
  obtain ⟨h, e⟩ | ⟨h, e⟩ | ⟨n, h, e⟩ := outputTick_cases s <;> rw [e]
  · exact outputTick_quiet h
  · simp only [outputTick, State.withLine, h, Res.withLine]
  · simp only [outputTick, State.withLine, h, Res.withLine]

theorem takeReply_withLine (s : State) (line : List Byte) :
    takeReply (s.withLine line) = (takeReply s).withLine line := by
  cases h : s.sinkReplies <;> simp only [takeReply, State.withLine, h]

theorem sinkPush_lineBlind : LineBlind sinkPush := fun s line => by
  have reply : nextReply (s.withLine line) = nextReply s := rfl
  cases h : nextReply s with
  | ok =>
    simp only [sinkPush, reply, h, takeReply_withLine]
    change (if s.count.toNat + s.stg.length < 4294967296 then _ else _) = _
    split <;> rfl
  | fail => simp only [sinkPush, reply, h, takeReply_withLine, Res.withLine]
  | silent => simp only [sinkPush, reply, h, Res.withLine]

theorem pushSegment_lineBlind : LineBlind pushSegment :=
  .ite (fun _ _ => .rfl) (outputTick_lineBlind.andThen sinkPush_lineBlind) fun _ _ => rfl

theorem writeByteFixed_lineBlind (v : Byte) : LineBlind (writeByteFixed v) :=
  .ite (fun _ _ => .rfl) (fun _ _ => rfl) <|
    .ite (fun _ _ => .rfl) (outputTick_lineBlind.andThen fun _ _ => rfl) fun _ _ => rfl

theorem writeByteStream_lineBlind (v : Byte) : LineBlind (writeByteStream v) :=
  .ite (fun _ _ => .rfl)
    (.ite (fun _ _ => .rfl) (fun s line => pushSegment_lineBlind { s with stg := s.stg ++ [v] } line) fun _ _ => rfl)
    fun _ _ => rfl

theorem writeByte_lineBlind (v : Byte) : LineBlind (writeByte v) := fun s line => by
  cases h : s.cfg.sink with
  | fixed =>
    simp only [writeByte, h, show (s.withLine line).cfg = s.cfg from rfl]
    exact writeByteFixed_lineBlind v s line
  | stream =>
    simp only [writeByte, h, show (s.withLine line).cfg = s.cfg from rfl]
    exact writeByteStream_lineBlind v s line

/-- WRITE_BYTE of a byte that ACC held, with ACC emptied first (R201, R206). -/
theorem writeByte_emptied_lineBlind (v : State → Byte) (hv : ∀ s line, v (s.withLine line) = v s) :
    LineBlind fun s => writeByte (v s) { s with acc := 0, nb := 0 } := fun s line => by
  simp only [hv]
  exact writeByte_lineBlind (v s) { s with acc := 0, nb := 0 } line

theorem pushBit_lineBlind (b : Bool) : LineBlind (pushBit b) :=
  .ite (fun _ _ => .rfl)
    (writeByte_emptied_lineBlind (fun s => placeBit s.cfg.bitOrder s.acc s.nb b) fun _ _ => rfl) fun _ _ => rfl

theorem emitBits_lineBlind (bs : Bits) : LineBlind (emitBits bs) := by
  induction bs with
  | nil => exact lineBlind_ok
  | cons b bs ih => exact (pushBit_lineBlind b).andThen ih

theorem emitRun_lineBlind (n : Int) (c : Colour) : LineBlind (emitRun n c) := fun s line => by
  by_cases h : n < 0
  · rw [emitRun_of_neg h, emitRun_of_neg h]
    rfl
  · rw [emitRun_of_nonneg (by omega), emitRun_of_nonneg (by omega)]
    exact emitBits_lineBlind _ s line

theorem flushPartial_lineBlind : LineBlind flushPartial :=
  .andThen (.ite (fun _ _ => .rfl) lineBlind_ok (writeByte_emptied_lineBlind State.acc fun _ _ => rfl))
    (.ite (fun _ _ => .rfl) pushSegment_lineBlind lineBlind_ok)

theorem emitEofb_lineBlind : LineBlind emitEofb :=
  .ite (fun _ _ => .rfl) ((emitBits_lineBlind _).andThen (emitBits_lineBlind _)) lineBlind_ok

/-! ### The rest of a line does not read LINE -/

theorem passStep_lineBlind : LineBlind passStep := fun s line =>
  (emitBits_lineBlind Mode.pass.bits).andThen (k := fun t => .ok { t with a0 := (s.b2 : Int) }) (fun _ _ => rfl) s line

theorem verticalStep_lineBlind (m : Mode) : LineBlind (verticalStep m) := fun s line =>
  (emitBits_lineBlind m.bits).andThen (k := fun t => .ok { t with a0 := (s.a1 : Int), colour := opp s.colour })
    (fun _ _ => rfl) s line

theorem horizontalStep_lineBlind : LineBlind horizontalStep := fun s line =>
  (emitBits_lineBlind Mode.horizontal.bits).andThen
    ((emitRun_lineBlind (firstRun s.a0 s.a1) s.colour).andThen
      ((emitRun_lineBlind (secondRun s.a1 s.a2) (opp s.colour)).andThen
        (k := fun t => .ok { t with a0 := (s.a2 : Int) }) fun _ _ => rfl)) s line

theorem modeStep_lineBlind (m : Mode) : LineBlind (modeStep m) := by
  cases m with
  | pass => exact passStep_lineBlind
  | horizontal => exact horizontalStep_lineBlind
  | _ => exact verticalStep_lineBlind _

theorem codingStep_lineBlind : LineBlind codingStep := fun s line => by
  rw [codingStep_eq_modeStep, codingStep_eq_modeStep]
  exact modeStep_lineBlind (selectMode s.a1 s.b1 s.b2) s line

theorem encodeLoop_lineBlind (fuel : Nat) : LineBlind (encodeLoop fuel) := by
  induction fuel with
  | zero => exact .ite (fun _ _ => .rfl) (fun _ _ => rfl) lineBlind_ok
  | succ fuel ih => exact .ite (fun _ _ => .rfl) (codingStep_lineBlind.andThen ih) lineBlind_ok

theorem encodeLine_lineBlind : LineBlind encodeLine := fun s line =>
  encodeLoop_lineBlind (s.W + 1) { s with a0 := -1, colour := .white } line

theorem finishRow_lineBlind : LineBlind finishRow :=
  .ite (fun _ _ => .rfl) (emitEofb_lineBlind.andThen (flushPartial_lineBlind.andThen fun _ _ => rfl)) lineBlind_ok

/-! ### EXTRACT reads the pixels of the line only -/

theorem extractFrom_congr {p q : Nat → Colour} {n x : Nat} (h : ∀ y, y < x + n → p y = q y) (prev : Colour) :
    extractFrom p n x prev = extractFrom q n x prev := by
  induction n generalizing x prev with
  | zero => rfl
  | succ n ih =>
    have rest : ∀ y, y < x + 1 + n → p y = q y := fun y hy => h y (by omega)
    simp only [extractFrom, h x (by omega), ih rest]

theorem extractSeq_congr {p q : Nat → Colour} {w : Nat} (h : ∀ x, x < w → p x = q x) : extractSeq p w = extractSeq q w :=
  extractFrom_congr (by simpa using h) .white

theorem setCur_withLine (s : State) (t : List Nat) (line : List Byte) :
    (s.withLine line).setCur t = (s.setCur t).withLine line := by
  cases h : s.refsel <;> simp only [State.setCur, State.withLine, h] <;> rfl

theorem extractLine_wide {s : State} (wide : s.params.maxTransitions < s.W) :
    extractLine s = .raised .invalidParameter s := by
  obtain ⟨-, e⟩ | ⟨fits, -⟩ | ⟨fits, -⟩ := extractLine_cases s
  · exact e
  · omega
  · omega

theorem extractLine_enough {s : State} (width : s.W ≤ s.params.maxTransitions) (enough : ceil8 s.W ≤ s.line.length) :
    extractLine s = .ok (s.setCur (extractSeq (pix s.cfg.bitOrder s.line) s.W)) := by
  obtain ⟨wide, -⟩ | ⟨-, short, -⟩ | ⟨-, -, e⟩ := extractLine_cases s
  · omega
  · omega
  · exact e

/-- Lines of enough bytes with the same pixels are extracted alike (R132, R136). -/
theorem extractLine_withLine {s : State} {line : List Byte} (enough : ceil8 s.W ≤ s.line.length)
    (enough' : ceil8 s.W ≤ line.length)
    (pixels : ∀ x, x < s.W → pix s.cfg.bitOrder s.line x = pix s.cfg.bitOrder line x) :
    extractLine (s.withLine line) = (extractLine s).withLine line := by
  by_cases wide : s.params.maxTransitions < s.W
  · rw [extractLine_wide wide, extractLine_wide (s := s.withLine line) wide]
    rfl
  · have fits := Nat.not_lt.1 wide
    rw [extractLine_enough fits enough, extractLine_enough (s := s.withLine line) fits enough', extractSeq_congr pixels,
      setCur_withLine]
    rfl

/-- ADD_LINE of a line with the same pixels runs the same course, but for LINE (R61, R222). -/
theorem addLineBody_withLine {s : State} {l1 l2 : List Byte} (enough1 : ceil8 s.W ≤ l1.length)
    (enough2 : ceil8 s.W ≤ l2.length)
    (pixels : ∀ x, x < s.W → pix s.cfg.bitOrder l1 x = pix s.cfg.bitOrder l2 x) :
    addLineBody l2 s = (addLineBody l1 s).withLine l2 := by
  have extracted := extractLine_withLine (s := { s with stateReg := .encoding, line := l1 }) enough1 enough2 pixels
  have rest : LineBlind fun s => (encodeLine s).andThen fun s => finishRow { swapBuffers s with rows := s.rows + 1 } :=
    encodeLine_lineBlind.andThen fun u line => finishRow_lineBlind { swapBuffers u with rows := u.rows + 1 } line
  exact (congrArg (Res.andThen · _) extracted).trans (Res.withLine_andThen rest _ l2)

/-- Neither a raise nor a hardware reset touches LINE (R227, R259). -/
theorem settleCommand_withLine {r : Res} {t : State} (line : List Byte) (h : settleCommand r = .next t) :
    settleCommand (r.withLine line) = .next (t.withLine line) := by
  cases r <;> cases h <;> rfl

/-- Settles O15: EXTRACT reads the pixels only, and nothing after it reads LINE. -/
theorem addLineIgnoresPadBits : Obligations.AddLineIgnoresPadBits := by
  intro l1 l2 s t accepting enough1 enough2 pixels h
  rw [exec_addLine_accepted accepting] at h ⊢
  rw [addLineBody_withLine enough1 enough2 pixels]
  exact settleCommand_withLine l2 h

end Sys2Proof.Machine
end

section
/-! PROOFS. O27: PUSH_SEGMENT answered OK (20_memory.md R63, 43_bitpacker.md R205). -/

namespace Sys2Proof.Machine

/-- A single segment delivered with nothing left staged. -/
theorem pushed_one {s : State} {rs : List SinkReply} (reply : s.sinkReplies = .ok :: rs) :
    s.pushed [s.stg] [] = { s with
      delivered := s.delivered ++ [s.stg]
      count := s.count + BitVec.ofNat 32 s.stg.length
      stg := []
      sinkReplies := rs } := by
  simp [State.pushed, reply]

/-- Settles O27, by what the sink does with an answer of OK. -/
theorem pushSegmentDelivers : Obligations.PushSegmentDelivers := by
  intro s rs sink staged quiet reply fits
  rw [exec_pushSegment, pushSegment_eq_sinkPush sink staged quiet, sinkPush_ok reply fits, settle, pushed_one reply]

end Sys2Proof.Machine
end

section
/-! PROOFS. O50, O49, O51, O23: in each set exactly one codeword begins a stream, and decoding gives back the operation that a
word was encoded from (30_encoding.md R90 to R110). -/

namespace Sys2Proof.Machine

/-! ### The reader of codewords -/

theorem dropPrefix_append (p rest : Bits) : dropPrefix p (p ++ rest) = some rest := by
  induction p with
  | nil => rfl
  | cons b p ih => simp [dropPrefix, ih]

/-- What is left where a codeword has been dropped follows that codeword in the bits. -/
theorem eq_append_of_dropPrefix {p bs rest : Bits} (h : dropPrefix p bs = some rest) : bs = p ++ rest := by
  induction p generalizing bs with
  | nil => simpa [dropPrefix] using h
  | cons b p ih =>
    cases bs with
    | nil => simp [dropPrefix] at h
    | cons b' bs =>
      obtain ⟨same, h⟩ : b = b' ∧ dropPrefix p bs = some rest := by simpa [dropPrefix] using h
      rw [← same, ih h, List.cons_append]

/-- No codeword of the set begins another one (R108). -/
def PrefixFree (rows : List CodeRow) : Prop :=
  rows.Pairwise fun q r => ¬ q.bits <+: r.bits ∧ ¬ r.bits <+: q.bits

theorem modeSet_prefixFree : PrefixFree modeSet := by unfold PrefixFree; decide +kernel
theorem whiteSet_prefixFree : PrefixFree whiteSet := by unfold PrefixFree; decide +kernel
theorem blackSet_prefixFree : PrefixFree blackSet := by unfold PrefixFree; decide +kernel

/-- A codeword that begins the same bits as another one begins it or is begun by it, so that the first row to
match is the only one. -/
theorem readCode_of_mem {rows : List CodeRow} (free : PrefixFree rows) {r : CodeRow} (h : r ∈ rows) (rest : Bits) :
    readCode rows (r.bits ++ rest) = some (r.instr, rest) := by
  induction rows with
  | nil => cases h
  | cons q rows ih =>
    obtain ⟨apart, free⟩ := List.pairwise_cons.1 free
    obtain rfl | h := List.mem_cons.1 h
    · simp [readCode, dropPrefix_append]
    · have skip : dropPrefix q.bits (r.bits ++ rest) = none := by
        refine Option.eq_none_iff_forall_ne_some.2 fun rest' hq => ?_
        have both : q.bits <+: r.bits ++ rest := ⟨rest', (eq_append_of_dropPrefix hq).symm⟩
        obtain hqr | hrq := List.prefix_or_prefix_of_prefix both (List.prefix_append r.bits rest)
        · exact (apart r h).1 hqr
        · exact (apart r h).2 hrq
      simp only [readCode, skip]
      exact ih free h

/-- Settles O50: in each of the three sets no codeword begins another. -/
theorem readerFindsCodewordBoundaries : Obligations.ReaderFindsCodewordBoundaries := by
  intro set hset r hr rest
  simp only [List.mem_cons, List.not_mem_nil, or_false] at hset
  obtain rfl | rfl | rfl := hset
  · exact readCode_of_mem modeSet_prefixFree hr rest
  · exact readCode_of_mem whiteSet_prefixFree hr rest
  · exact readCode_of_mem blackSet_prefixFree hr rest

/-! ### Words of codewords -/

/-- The set that a word is read in, where it is one of the three (R108). -/
def codeRows : Port → List CodeRow
  | .mode => modeSet
  | .white => whiteSet
  | .black => blackSet
  | _ => []

theorem codeRows_prefixFree (p : Port) : PrefixFree (codeRows p) := by
  cases p with
  | mode => exact modeSet_prefixFree
  | white => exact whiteSet_prefixFree
  | black => exact blackSet_prefixFree
  | _ => exact List.Pairwise.nil

/-- Each codeword operation has its row in the set that its word is read in (R95, R101 to R107). -/
theorem row_of_codeword {i : Instr} {cw : Codeword} (h : i.codeword = some cw) :
    ∃ r ∈ codeRows cw.port, r.instr = i ∧ r.bits = cw.bits := by
  cases i <;> cases h <;> decide +kernel

theorem decode_of_row {p : Port} {r : CodeRow} (h : r ∈ codeRows p) : decode ⟨p, r.bits⟩ = .ok r.instr := by
  have read : decodeCode (codeRows p) r.bits = .ok r.instr := by
    have := readCode_of_mem (codeRows_prefixFree p) h []
    simp only [List.append_nil] at this
    simp [decodeCode, this]
  cases p with
  | mode => exact read
  | white => exact read
  | black => exact read
  | _ => cases h

theorem decode_encode_of_codeword {i : Instr} {cw : Codeword} (h : i.codeword = some cw) : decode (encode i) = .ok i := by
  obtain ⟨r, hr, rfl, hbits⟩ := row_of_codeword h
  simp only [encode, h]
  rw [← hbits, decode_of_row hr]

/-! ### Operand fields -/

@[simp] theorem bitsMsb_length (n v : Nat) : (bitsMsb n v).length = n := by
  induction n with
  | zero => rfl
  | succ n ih => simp [bitsMsb, ih]

theorem natOfBits_cons (b : Bool) (bs : Bits) : natOfBits (b :: bs) = 2 ^ bs.length * b.toNat + natOfBits bs := by
  induction bs using List.reverseRecOn with
  | nil => simp [natOfBits]
  | append_singleton bs b' ih =>
    rw [← List.cons_append, natOfBits_concat, ih, natOfBits_concat, List.length_append, List.length_singleton]
    ring

/-- The low bits of a number, written out and read again. -/
theorem natOfBits_bitsMsb (n v : Nat) : natOfBits (bitsMsb n v) = v % 2 ^ n := by
  induction n with
  | zero => simp [bitsMsb, natOfBits, Nat.mod_one]
  | succ n ih => rw [bitsMsb, natOfBits_cons, ih, bitsMsb_length, Nat.mod_pow_succ, Nat.add_comm, ← Nat.toNat_testBit]

@[simp] theorem ofNat_natOfBits_bitsMsb {n : Nat} (v : BitVec n) : BitVec.ofNat n (natOfBits (bitsMsb n v.toNat)) = v := by
  rw [natOfBits_bitsMsb, Nat.mod_eq_of_lt v.isLt, BitVec.ofNat_toNat, BitVec.setWidth_eq]

/-- The first field of operands that are written one after another. -/
theorem fieldAt_zero {n : Nat} (v : BitVec n) (ops : Bits) :
    BitVec.ofNat n (fieldAt (bitsMsb n v.toNat ++ ops) 0 n) = v := by
  rw [fieldAt, List.drop_zero, List.take_left' (bitsMsb_length n _), ofNat_natOfBits_bitsMsb]

/-- A later field is read behind the first one. -/
theorem fieldAt_add (n v : Nat) (ops : Bits) (off len : Nat) :
    fieldAt (bitsMsb n v ++ ops) (n + off) len = fieldAt ops off len := by
  rw [fieldAt, ← List.drop_drop, List.drop_left' (bitsMsb_length n v), fieldAt]

/-! ### Words of commands and micro-operations -/

/-- The operands of INIT, in R110's order. -/
def initOperands (width : BitVec 16) (height : BitVec 32) (bitOrder sink : BitVec 8) (cap : BitVec 32) : Bits :=
  bitsMsb 16 width.toNat ++ (bitsMsb 32 height.toNat ++ (bitsMsb 8 bitOrder.toNat ++ (bitsMsb 8 sink.toNat
    ++ bitsMsb 32 cap.toNat)))

theorem encode_init (width : BitVec 16) (height : BitVec 32) (bitOrder sink : BitVec 8) (cap : BitVec 32) :
    encode (.init width height bitOrder sink cap)
      = ⟨.command, false :: false :: initOperands width height bitOrder sink cap⟩ := by
  refine congrArg (PortWord.mk .command) ?_
  simp only [initOperands, List.cons_append, List.nil_append, List.append_assoc]

theorem decode_command (bs : Bits) : decode ⟨.command, bs⟩ = decodeCommand bs := rfl

theorem decodeCommand_init {ops : Bits} (h : ops.length = 96) :
    decodeCommand (false :: false :: ops) =
      .ok (.init (BitVec.ofNat 16 (fieldAt ops 0 16)) (BitVec.ofNat 32 (fieldAt ops 16 32))
        (BitVec.ofNat 8 (fieldAt ops 48 8)) (BitVec.ofNat 8 (fieldAt ops 56 8)) (BitVec.ofNat 32 (fieldAt ops 64 32))) :=
  if_pos h

theorem decode_encode_init (width : BitVec 16) (height : BitVec 32) (bitOrder sink : BitVec 8) (cap : BitVec 32) :
    decode (encode (.init width height bitOrder sink cap)) = .ok (.init width height bitOrder sink cap) := by
  rw [encode_init]
  rw [decode_command, decodeCommand_init (by simp [initOperands])]
  have hwidth : BitVec.ofNat 16 (fieldAt (initOperands width height bitOrder sink cap) 0 16) = width :=
    fieldAt_zero width _
  have hheight : BitVec.ofNat 32 (fieldAt (initOperands width height bitOrder sink cap) 16 32) = height := by
    rw [initOperands, fieldAt_add 16 _ _ 0, fieldAt_zero]
  have horder : BitVec.ofNat 8 (fieldAt (initOperands width height bitOrder sink cap) 48 8) = bitOrder := by
    rw [initOperands, fieldAt_add 16 _ _ 32, fieldAt_add 32 _ _ 0, fieldAt_zero]
  have hsink : BitVec.ofNat 8 (fieldAt (initOperands width height bitOrder sink cap) 56 8) = sink := by
    rw [initOperands, fieldAt_add 16 _ _ 40, fieldAt_add 32 _ _ 8, fieldAt_add 8 _ _ 0, fieldAt_zero]
  have hcap : BitVec.ofNat 32 (fieldAt (initOperands width height bitOrder sink cap) 64 32) = cap := by
    rw [initOperands, fieldAt_add 16 _ _ 48, fieldAt_add 32 _ _ 16, fieldAt_add 8 _ _ 8, fieldAt_add 8 _ _ 0,
      ← List.append_nil (bitsMsb 32 cap.toNat), fieldAt_zero]
  rw [hwidth, hheight, horder, hsink, hcap]

theorem bytesOfBits_bitsOfByte (v : Byte) (bs : Bits) :
    bytesOfBits (bitsOfByte v ++ bs) = (bytesOfBits bs).map (v :: ·) := by
  have := ofNat_natOfBits_bitsMsb v
  simp only [bitsOfByte, bitsMsb, List.cons_append, List.nil_append, bytesOfBits] at this ⊢
  rw [this]

theorem bytesOfBits_flatMap (line : List Byte) : bytesOfBits (line.flatMap bitsOfByte) = some line := by
  induction line with
  | nil => rfl
  | cons v line ih => rw [List.flatMap_cons, bytesOfBits_bitsOfByte, ih, Option.map_some]

theorem decodeCommand_addLine {ops : Bits} {line : List Byte} (h : bytesOfBits ops = some line) :
    decodeCommand (false :: true :: ops) = .ok (.addLine line) := by
  simp only [decodeCommand, h]

theorem decode_encode_addLine (line : List Byte) : decode (encode (.addLine line)) = .ok (.addLine line) := by
  exact decodeCommand_addLine (bytesOfBits_flatMap line)

theorem colourOfBit_bitOfColour (c : Colour) : colourOfBit (bitOfColour c) = c := by cases c <;> rfl

theorem encode_run (n : Int) (c : Colour) :
    encode (.run n c) = ⟨.micro .run, bitOfColour c :: bitsMsb 18 (BitVec.ofInt 18 n).toNat⟩ := rfl

theorem decode_run {ns : Bits} (h : ns.length = 18) (c : Bool) :
    decode ⟨.micro .run, c :: ns⟩ = .ok (.run (BitVec.ofNat 18 (natOfBits ns)).toInt (colourOfBit c)) :=
  if_pos h

/-- The length of a run lies within 18 bits of two's complement (R158). -/
theorem decode_encode_run {n : Int} {c : Colour} (h : (Instr.run n c).wellFormed = true) :
    decode (encode (.run n c)) = .ok (.run n c) := by
  obtain ⟨hlo, hhi⟩ : -131072 ≤ n ∧ n ≤ 131071 := by simpa [Instr.wellFormed] using h
  have length : (BitVec.ofInt 18 n).toInt = n := by
    rw [BitVec.toInt_ofInt]
    exact Int.bmod_eq_of_le (by omega) (by omega)
  rw [encode_run, decode_run (bitsMsb_length 18 _), ofNat_natOfBits_bitsMsb, length, colourOfBit_bitOfColour]

theorem encode_writeByte (v : Byte) : encode (.writeByte v) = ⟨.micro .writeByte, bitsMsb 8 v.toNat⟩ := rfl

theorem decode_writeByte {bs : Bits} (h : bs.length = 8) :
    decode ⟨.micro .writeByte, bs⟩ = .ok (.writeByte (BitVec.ofNat 8 (natOfBits bs))) :=
  if_pos h

theorem decode_encode_writeByte (v : Byte) : decode (encode (.writeByte v)) = .ok (.writeByte v) := by
  rw [encode_writeByte, decode_writeByte (bitsMsb_length 8 _), ofNat_natOfBits_bitsMsb]

/-- Settles O49, by whether the operation is a codeword. -/
theorem decodeInvertsEncode : Obligations.DecodeInvertsEncode := by
  intro i wf
  cases hc : i.codeword with
  | some cw => exact decode_encode_of_codeword hc
  | none =>
    cases i with
    | init width height bitOrder sink cap => exact decode_encode_init width height bitOrder sink cap
    | addLine line => exact decode_encode_addLine line
    | run n c => exact decode_encode_run wf
    | writeByte v => exact decode_encode_writeByte v
    | getOutputSize | getError | extract | encodeLine | emit _ | pushbit _ | pushSegment | flushPartial | eofb | swap
    | reset => rfl
    | _ => cases hc

/-! ### Words and tables written out -/

/-- Settles O51: each word is read by computing. -/
theorem wordsDecodeToTheirOperations : Obligations.WordsDecodeToTheirOperations := by
  unfold Obligations.WordsDecodeToTheirOperations
  decide +kernel

/-- No codeword is empty, and none is longer than CODE_MAX (R4, R90). -/
theorem codeword_length_bounds :
    ∀ r ∈ modeSet ++ whiteSet ++ blackSet, 1 ≤ r.bits.length ∧ r.bits.length ≤ Config.codeMax := by decide +kernel

/-- Settles O23, by the rows of the tables. -/
theorem codeTablesAreComplete : Obligations.CodeTablesAreComplete :=
  ⟨rfl, rfl, rfl, rfl, rfl, rfl, codeword_length_bounds, rfl, rfl, rfl⟩

end Sys2Proof.Machine
end

section
/-! PROOFS. O43, first half: the coding steps of a line, read against the same reference, give the line back
(42_mode_encoder.md R171 to R185). -/

namespace Sys2Proof.Machine

/-! ### The changes right of a0 -/

/-- The entries of a transition sequence that lie right of a0. -/
def remaining (t : List Nat) (a0 : Int) : List Nat := t.filter fun x => decide (a0 < (x : Int))

theorem mem_remaining {t : List Nat} {a0 : Int} {x : Nat} : x ∈ remaining t a0 ↔ x ∈ t ∧ a0 < (x : Int) := by
  simp [remaining]

theorem remaining_eq_self {t : List Nat} {a0 : Int} (h : ∀ x ∈ t, a0 < (x : Int)) : remaining t a0 = t :=
  List.filter_eq_self.2 fun x hx => decide_eq_true (h x hx)

theorem remaining_remaining (t : List Nat) {a0 b : Int} (h : a0 ≤ b) : remaining (remaining t a0) b = remaining t b := by
  rw [remaining, remaining, remaining, List.filter_filter]
  refine List.filter_congr fun x _ => ?_
  simp only [← Bool.decide_and, decide_eq_decide]
  omega

theorem remaining_pairwise {t : List Nat} (rise : t.Pairwise (· < ·)) (a0 : Int) :
    (remaining t a0).Pairwise (· < ·) :=
  rise.filter _

/-- What lies right of the first of the remaining entries is the rest of them. -/
theorem remaining_of_eq_cons {t xs : List Nat} {a0 : Int} {x : Nat} (rise : t.Pairwise (· < ·))
    (h : remaining t a0 = x :: xs) : remaining t (x : Int) = xs := by
  have right : a0 < (x : Int) := (mem_remaining.1 (h ▸ List.mem_cons_self)).2
  have above : ∀ y ∈ xs, x < y := (List.pairwise_cons.1 (h ▸ remaining_pairwise rise a0)).1
  rw [← remaining_remaining t right.le, h, remaining, List.filter_cons_of_neg (by simp)]
  exact remaining_eq_self fun y hy => Int.ofNat_lt.2 (above y hy)

/-- The same entries remain up to the first of them. -/
theorem remaining_of_lt_head {t xs : List Nat} {a0 b : Int} {x : Nat} (rise : t.Pairwise (· < ·))
    (h : remaining t a0 = x :: xs) (hab : a0 ≤ b) (hbx : b < (x : Int)) : remaining t b = remaining t a0 := by
  rw [← remaining_remaining t hab]
  refine remaining_eq_self fun y hy => ?_
  obtain rfl | hy := List.mem_cons.1 (h ▸ hy)
  · exact hbx
  · have : x < y := (List.pairwise_cons.1 (h ▸ remaining_pairwise rise a0)).1 y hy
    omega

/-- The last of the remaining entries is the boundary entry, as long as a0 has not reached it. -/
theorem remaining_getLast? {w : Nat} {t : List Nat} (wf : seqWf w t = true) {a0 : Int} (ha : a0 < (w : Int)) :
    (remaining t a0).getLast? = some w := by
  obtain ⟨init, rfl⟩ := List.getLast?_eq_some_iff.1 ((seqWf_iff w t).1 wf).2
  simp [remaining, List.filter_append, ha]

/-- Nothing is left once a0 has reached the end of the line. -/
theorem remaining_eq_nil {w : Nat} {t : List Nat} (wf : seqWf w t = true) {a0 : Int} (ha : (w : Int) ≤ a0) :
    remaining t a0 = [] :=
  List.filter_eq_nil_iff.2 fun x hx => by
    have := le_of_mem_of_seqWf wf hx
    simp only [decide_eq_true_eq]
    omega

/-- Of the remaining entries the first two stand before what lies right of the second; after the boundary entry stands no
second one, and the width is read in its place (R172). -/
theorem remaining_eq_a1_a2 {w : Nat} {t xs : List Nat} (wf : seqWf w t = true) {a0 : Int} {x : Nat}
    (h : remaining t a0 = x :: xs) :
    x ≤ xs.headD w
      ∧ x :: xs = (if xs.headD w - x = 0 then [x] else [x, xs.headD w]) ++ remaining t (xs.headD w : Int) := by
  obtain ⟨rise, -⟩ := (seqWf_iff w t).1 wf
  have hxs : remaining t (x : Int) = xs := remaining_of_eq_cons rise h
  have hx : x ≤ w := le_of_mem_of_seqWf wf (mem_remaining.1 (h ▸ List.mem_cons_self)).1
  cases xs with
  | nil =>
    have boundary : x = w := by
      by_contra hne
      simpa [hxs] using remaining_getLast? wf (a0 := x) (by omega)
    subst boundary
    simp [hxs]
  | cons y ys =>
    have hxy : x < y := Int.ofNat_lt.1 (mem_remaining.1 (hxs ▸ List.mem_cons_self)).2
    simp [remaining_of_eq_cons rise hxs, hxy.le, Nat.sub_ne_zero_of_lt hxy]

/-! ### a1 and a2 among them -/

theorem leastAbove_true_succ (a0 : Int) (t : List Nat) (k : Nat) :
    leastAbove a0 (fun _ => true) t (k + 1) = (leastAbove a0 (fun _ => true) t k).map (· + 1) := by
  induction t generalizing k with
  | nil => rfl
  | cons x xs ih =>
    simp only [leastAbove, Bool.true_and]
    split
    · rfl
    · exact ih (k + 1)

theorem aPair_cons_of_lt {a0 : Int} {x : Nat} (h : a0 < (x : Int)) (xs : List Nat) (w : Nat) :
    aPair (x :: xs) w a0 = (x, xs.headD w) := by
  cases xs <;> simp [aPair, changePair, leastAbove, h, padded]

theorem aPair_cons_of_le {a0 : Int} {x : Nat} (h : (x : Int) ≤ a0) (xs : List Nat) (w : Nat) :
    aPair (x :: xs) w a0 = aPair xs w a0 := by
  have skip : leastAbove a0 (fun _ => true) (x :: xs) 0 = (leastAbove a0 (fun _ => true) xs 0).map (· + 1) := by
    simp [leastAbove, h, leastAbove_true_succ]
  unfold aPair changePair
  rw [skip]
  cases leastAbove a0 (fun _ => true) xs 0 <;> simp [padded]

/-- a1 and a2 are the first two of the remaining entries, padded with the width (R172). -/
theorem aPair_eq {t : List Nat} (rise : t.Pairwise (· < ·)) (w : Nat) (a0 : Int) :
    aPair t w a0 = ((remaining t a0).headD w, (remaining t a0).tail.headD w) := by
  induction t with
  | nil => rfl
  | cons x xs ih =>
    obtain ⟨above, rise⟩ := List.pairwise_cons.1 rise
    by_cases h : a0 < (x : Int)
    · have all : remaining (x :: xs) a0 = x :: xs := remaining_eq_self fun y hy => by
        obtain rfl | hy := List.mem_cons.1 hy
        · exact h
        · have := above y hy
          omega
      rw [aPair_cons_of_lt h, all]
      rfl
    · rw [aPair_cons_of_le (not_lt.1 h), ih rise, remaining, remaining, List.filter_cons_of_neg (by simpa using h)]

/-! ### The coding steps -/

/-- How far right of b1 a vertical mode puts a1 (R177 to R183). -/
def verticalOffset : Mode → Int
  | .vr1 => 1
  | .vr2 => 2
  | .vr3 => 3
  | .vl1 => -1
  | .vl2 => -2
  | .vl3 => -3
  | _ => 0

/-- The choice of R171. -/
theorem selectMode_cases (a1 b1 b2 : Nat) :
    (selectMode a1 b1 b2 = .pass ∧ b2 < a1) ∨ selectMode a1 b1 b2 = .horizontal
    ∨ ∃ m, m ≠ .pass ∧ m ≠ .horizontal ∧ selectMode a1 b1 b2 = m ∧ (a1 : Int) = b1 + verticalOffset m := by
  by_cases h : b2 < a1
  · exact .inl ⟨if_pos h, h⟩
  · refine .inr ?_
    rw [selectMode, if_neg h]
    dsimp only
    split_ifs
    case neg => exact .inl rfl
    all_goals exact .inr ⟨_, by decide, by decide, rfl, by simp only [verticalOffset]; omega⟩

/-- A coding step is Pass, with b2 left of a1, or Horizontal, or the vertical mode of a1 (R171 to R184). -/
theorem chooseStep_cases (ref cur : List Nat) (w : Nat) (a0 : Int) (c : Colour) :
    (chooseStep ref cur w a0 c = (.pass, ((bPair ref w a0 c).2 : Int)) ∧ (bPair ref w a0 c).2 < (aPair cur w a0).1)
    ∨ chooseStep ref cur w a0 c =
        (.horizontal c (firstRun a0 (aPair cur w a0).1).toNat (secondRun (aPair cur w a0).1 (aPair cur w a0).2).toNat,
          ((aPair cur w a0).2 : Int))
    ∨ ∃ m, m ≠ .pass ∧ m ≠ .horizontal ∧ chooseStep ref cur w a0 c = (.vertical m, ((aPair cur w a0).1 : Int))
        ∧ ((aPair cur w a0).1 : Int) = (bPair ref w a0 c).1 + verticalOffset m := by
  obtain ⟨e, h⟩ | e | ⟨m, hp, hh, e, h⟩ :=
    selectMode_cases (aPair cur w a0).1 (bPair ref w a0 c).1 (bPair ref w a0 c).2
  · exact .inl ⟨by simp only [chooseStep, e], h⟩
  · exact .inr (.inl (by simp only [chooseStep, e]))
  · refine .inr (.inr ⟨m, hp, hh, ?_, h⟩)
    simp only [chooseStep, e]

/-- Each coding step moves a0 to the right (R186). -/
theorem chooseStep_progress {ref cur : List Nat} {w : Nat} {a0 : Int} (wfRef : seqWf w ref = true)
    (wfCur : seqWf w cur = true) (ha : a0 < (w : Int)) (c : Colour) : a0 < (chooseStep ref cur w a0 c).2 := by
  have a := changePair_ordered wfCur ha fun _ => true
  have b := changePair_ordered wfRef ha fun j => j % 2 == colourCode c
  change a0 < ((aPair cur w a0).1 : Int) ∧ (aPair cur w a0).1 ≤ (aPair cur w a0).2 ∧ _ at a
  change a0 < ((bPair ref w a0 c).1 : Int) ∧ (bPair ref w a0 c).1 ≤ (bPair ref w a0 c).2 ∧ _ at b
  obtain ⟨e, -⟩ | e | ⟨m, -, -, e, -⟩ := chooseStep_cases ref cur w a0 c <;> rw [e] <;> dsimp only <;> omega

/-! ### The line read back -/

/-- What a coding step says of the current line to a reader who knows the reference: the changes that it passes, and the a0
it leaves (R176 to R184). -/
def readStep (ref : List Nat) (w : Nat) (a0 : Int) (c : Colour) : CodingStep → List Nat × Int
  | .pass => ([], ((bPair ref w a0 c).2 : Int))
  | .vertical m =>
    let a1 : Int := (bPair ref w a0 c).1 + verticalOffset m
    ([a1.toNat], a1)
  | .horizontal _ n1 n2 =>
    let a1 := (max a0 0).toNat + n1
    (if n2 = 0 then [a1] else [a1, a1 + n2], ((a1 + n2 : Nat) : Int))

/-- The changes that the coding steps of a line say, from `a0` and `c` on. -/
def readSteps (ref : List Nat) (w : Nat) : Int → Colour → List CodingStep → List Nat
  | _, _, [] => []
  | a0, c, st :: sts => (readStep ref w a0 c st).1 ++ readSteps ref w (readStep ref w a0 c st).2 (st.colourAfter c) sts

/-- A coding step says the a0 that it leaves, and the changes up to there. -/
theorem readStep_chooseStep {ref cur : List Nat} {w : Nat} {a0 : Int} (wfRef : seqWf w ref = true)
    (wfCur : seqWf w cur = true) (ha : a0 < (w : Int)) (c : Colour) :
    (readStep ref w a0 c (chooseStep ref cur w a0 c).1).2 = (chooseStep ref cur w a0 c).2
    ∧ remaining cur a0 = (readStep ref w a0 c (chooseStep ref cur w a0 c).1).1
        ++ remaining cur (chooseStep ref cur w a0 c).2 := by
  obtain ⟨rise, -⟩ := (seqWf_iff w cur).1 wfCur
  have progress := chooseStep_progress wfRef wfCur ha c
  obtain ⟨x, xs, hR⟩ : ∃ x xs, remaining cur a0 = x :: xs :=
    List.exists_cons_of_ne_nil fun h => by simpa [h] using remaining_getLast? wfCur ha
  have right : a0 < (x : Int) := (mem_remaining.1 (hR ▸ List.mem_cons_self)).2
  have pair : aPair cur w a0 = (x, xs.headD w) := by rw [aPair_eq rise, hR]; rfl
  obtain ⟨e, hb⟩ | e | ⟨m, -, -, e, hm⟩ := chooseStep_cases ref cur w a0 c <;> rw [e] at progress ⊢ <;>
    simp only [pair] at *
  · rw [remaining_of_lt_head rise hR progress.le (Int.ofNat_lt.2 hb)]
    exact ⟨rfl, rfl⟩
  · obtain ⟨horder, hsplit⟩ := remaining_eq_a1_a2 wfCur hR
    have ha1 : (max a0 0).toNat + (firstRun a0 x).toNat = x := by unfold firstRun; omega
    have hn2 : (secondRun x (xs.headD w)).toNat = xs.headD w - x := by unfold secondRun; omega
    rw [readStep, ha1, hn2, Nat.add_sub_cancel' horder, ← hsplit]
    exact ⟨rfl, hR⟩
  · rw [readStep, ← hm, remaining_of_eq_cons rise hR, hR]
    exact ⟨rfl, rfl⟩

/-- The coding steps from a0 on say the changes right of a0. -/
theorem readSteps_stepsFrom {ref cur : List Nat} {w : Nat} (wfRef : seqWf w ref = true) (wfCur : seqWf w cur = true)
    {fuel : Nat} {a0 : Int} (enough : (w : Int) - a0 ≤ fuel) (c : Colour) :
    readSteps ref w a0 c (stepsFrom ref cur w fuel a0 c) = remaining cur a0 := by
  induction fuel generalizing a0 c with
  | zero => rw [stepsFrom, readSteps, remaining_eq_nil wfCur (by omega)]
  | succ fuel ih =>
    unfold stepsFrom
    split
    · rename_i ha
      have progress := chooseStep_progress wfRef wfCur ha c
      obtain ⟨hnext, hsplit⟩ := readStep_chooseStep wfRef wfCur ha c
      simp only [readSteps]
      rw [hnext, ih (by omega), hsplit]
    · rw [readSteps, remaining_eq_nil wfCur (by omega)]

/-- Reading the coding steps of a line against its reference reproduces the line (R185). -/
theorem readSteps_lineSteps {ref cur : List Nat} {w : Nat} (wfRef : seqWf w ref = true) (wfCur : seqWf w cur = true) :
    readSteps ref w (-1) .white (lineSteps ref cur w) = cur := by
  rw [lineSteps, readSteps_stepsFrom wfRef wfCur (by omega), remaining_eq_self fun x _ => by omega]

end Sys2Proof.Machine
end

section
/-! PROOFS. O43, second half: the bits of a line are read codeword by codeword, as no codeword of a set begins another
(30_encoding.md R92, R93, R108, 42_mode_encoder.md R185). -/

namespace Sys2Proof.Machine

/-! ### Codewords -/

/-- The set that a run of a colour is read in (R108). -/
def runSet : Colour → List CodeRow
  | .white => whiteSet
  | .black => blackSet

theorem runSet_prefixFree (c : Colour) : PrefixFree (runSet c) := by
  cases c with
  | white => exact whiteSet_prefixFree
  | black => exact blackSet_prefixFree

/-- A codeword is the row of a set, under its name and with its bits. -/
abbrev InSet (rows : List CodeRow) (cw : Codeword) : Prop :=
  ∃ r ∈ rows, r.instr.codeword = some cw ∧ r.bits = cw.bits

/-- Two codewords of one set that begin the same bits are the same codeword, and the same bits follow. -/
theorem InSet.eq_of_append_eq {rows : List CodeRow} (free : PrefixFree rows) {v w : Codeword} (hv : InSet rows v)
    (hw : InSet rows w) {x y : Bits} (h : v.bits ++ x = w.bits ++ y) : v = w ∧ x = y := by
  obtain ⟨q, hq, qname, qbits⟩ := hv
  obtain ⟨r, hr, rname, rbits⟩ := hw
  have read : some (q.instr, x) = some (r.instr, y) := by
    rw [← readCode_of_mem free hq x, ← readCode_of_mem free hr y, qbits, rbits, h]
  obtain ⟨same, rest⟩ := Prod.mk.inj (Option.some.inj read)
  rw [same, rname] at qname
  exact ⟨(Option.some.inj qname).symm, rest⟩

theorem mode_inSet (m : Mode) : InSet modeSet (.mode m) := by cases m <;> decide +kernel

theorem term_inSet (c : Colour) {t : Nat} (h : t < 64) : InSet (runSet c) (.run (.term c t)) := by
  have all : ∀ t < 64, InSet (runSet c) (.run (.term c t)) := by cases c <;> decide +kernel
  exact all t h

theorem makeup_inSet (c : Colour) {k : Nat} (pos : 1 ≤ k) (h : k < 28) : InSet (runSet c) (.run (.makeup c k)) := by
  have all : ∀ k < 28, 1 ≤ k → InSet (runSet c) (.run (.makeup c k)) := by cases c <;> decide +kernel
  exact all k h pos

/-- The extended makeup codewords stand in the sets of both colours (R106, R108). -/
theorem ext_inSet (c : Colour) {k : Nat} (hlo : 28 ≤ k) (h : k < 41) : InSet (runSet c) (.run (.ext k)) := by
  have all : ∀ k < 41, 28 ≤ k → InSet (runSet c) (.run (.ext k)) := by cases c <;> decide +kernel
  exact all k h hlo

/-! ### Runs -/

theorem runCode_eq_of_append_eq {c : Colour} {q r : RunCode} (hq : InSet (runSet c) (.run q))
    (hr : InSet (runSet c) (.run r)) {x y : Bits} (h : q.bits ++ x = r.bits ++ y) : q = r ∧ x = y := by
  obtain ⟨same, rest⟩ := hq.eq_of_append_eq (runSet_prefixFree c) hr h
  exact ⟨Codeword.run.inj same, rest⟩

/-- The codewords of a run (R93): makeup codewords, then one terminating codeword, all of the set of the colour. -/
inductive RunCoding (c : Colour) : List RunCode → Prop
  | term {t : Nat} (h : InSet (runSet c) (.run (.term c t))) : RunCoding c [.term c t]
  | more {r : RunCode} {rs : List RunCode} (hr : InSet (runSet c) (.run r)) (notTerm : ∀ t, r ≠ .term c t)
      (hrs : RunCoding c rs) : RunCoding c (r :: rs)

/-- A reader finds the end of a run at its terminating codeword. -/
theorem RunCoding.eq_of_append_eq {c : Colour} {l1 l2 : List RunCode} (h1 : RunCoding c l1) (h2 : RunCoding c l2)
    {x y : Bits} (h : l1.flatMap RunCode.bits ++ x = l2.flatMap RunCode.bits ++ y) : l1 = l2 ∧ x = y := by
  induction h1 generalizing l2 with
  | term h1 =>
    cases h2 with
    | term h2 => simpa using runCode_eq_of_append_eq h1 h2 (by simpa using h)
    | more hr notTerm hrs =>
      obtain ⟨same, -⟩ := runCode_eq_of_append_eq h1 hr (by simpa using h)
      exact absurd same.symm (notTerm _)
  | more hr notTerm hrs ih =>
    cases h2 with
    | term h2 =>
      obtain ⟨same, -⟩ := runCode_eq_of_append_eq hr h2 (by simpa using h)
      exact absurd same (notTerm _)
    | more hr' notTerm' hrs' =>
      obtain ⟨same, rest⟩ := runCode_eq_of_append_eq hr hr' (by simpa using h)
      obtain ⟨sames, rests⟩ := ih hrs' rest
      exact ⟨by rw [same, sames], rests⟩

theorem runTail_runCoding {n : Nat} (h : n < 2560) (c : Colour) : RunCoding c (runTail n c) := by
  have last : RunCoding c [.term c (n % 64)] := .term (term_inSet c (Nat.mod_lt n (by decide)))
  unfold runTail
  split
  · exact last
  · split
    · exact .more (ext_inSet c (by omega) (by omega)) (by simp) last
    · exact .more (makeup_inSet c (by omega) (by omega)) (by simp) last

theorem runCodes_runCoding (n : Nat) (c : Colour) : RunCoding c (runCodes n c) := by
  unfold runCodes
  induction n / 2560 with
  | zero => exact runTail_runCoding (Nat.mod_lt n (by decide)) c
  | succ k ih => exact .more (ext_inSet c (by decide) (by decide)) (by simp) ih

theorem runTail_sum (n : Nat) (c : Colour) : ((runTail n c).map RunCode.run).sum = n := by
  unfold runTail
  split_ifs <;> simp [RunCode.run] <;> omega

/-- The run values of the codewords of a run add up to its length (R151). -/
theorem runCodes_sum (n : Nat) (c : Colour) : ((runCodes n c).map RunCode.run).sum = n := by
  rw [runCodes, List.map_append, List.sum_append, runTail_sum, List.map_replicate, List.sum_replicate, RunCode.run,
    smul_eq_mul]
  omega

/-- A reader finds the length of a run, and its end. -/
theorem runBits_append_inj {m n : Nat} {c : Colour} {x y : Bits} (h : runBits m c ++ x = runBits n c ++ y) :
    m = n ∧ x = y := by
  obtain ⟨codes, rest⟩ := (runCodes_runCoding m c).eq_of_append_eq (runCodes_runCoding n c) h
  exact ⟨by rw [← runCodes_sum m c, codes, runCodes_sum], rest⟩

/-! ### Coding steps -/

/-- The mode of a coding step. -/
def stepMode : CodingStep → Mode
  | .pass => .pass
  | .vertical m => m
  | .horizontal _ _ _ => .horizontal

/-- The bits of a coding step after its mode codeword (R92). -/
def stepRuns : CodingStep → Bits
  | .pass => []
  | .vertical _ => []
  | .horizontal c n1 n2 => runBits n1 c ++ runBits n2 (opp c)

theorem codingStep_bits (st : CodingStep) : st.bits = (Codeword.mode (stepMode st)).bits ++ stepRuns st := by
  cases st with
  | pass => exact (List.append_nil _).symm
  | vertical m => exact (List.append_nil _).symm
  | horizontal c n1 n2 => exact List.append_assoc _ _ _

/-- A coding step that can be taken in a colour: the mode is that of the step, and the first run is of the colour (R94). -/
inductive StepIn (c : Colour) : CodingStep → Prop
  | pass : StepIn c .pass
  | vertical {m : Mode} (notPass : m ≠ .pass) (notHorizontal : m ≠ .horizontal) : StepIn c (.vertical m)
  | horizontal (n1 n2 : Nat) : StepIn c (.horizontal c n1 n2)

theorem chooseStep_stepIn (ref cur : List Nat) (w : Nat) (a0 : Int) (c : Colour) :
    StepIn c (chooseStep ref cur w a0 c).1 := by
  obtain ⟨e, -⟩ | e | ⟨m, hp, hh, e, -⟩ := chooseStep_cases ref cur w a0 c <;> rw [e]
  · exact .pass
  · exact .horizontal _ _
  · exact .vertical hp hh

/-- A reader who knows COLOR finds a coding step, and its end. -/
theorem StepIn.eq_of_append_eq {c : Colour} {st1 st2 : CodingStep} (h1 : StepIn c st1) (h2 : StepIn c st2) {x y : Bits}
    (h : st1.bits ++ x = st2.bits ++ y) : st1 = st2 ∧ x = y := by
  rw [codingStep_bits, codingStep_bits, List.append_assoc, List.append_assoc] at h
  obtain ⟨mode, rest⟩ := (mode_inSet _).eq_of_append_eq modeSet_prefixFree (mode_inSet _) h
  replace mode := Codeword.mode.inj mode
  cases h1 with
  | pass =>
    cases h2 with
    | pass => exact ⟨rfl, rest⟩
    | vertical notPass notHorizontal => exact absurd mode.symm notPass
    | horizontal n1 n2 => cases mode
  | vertical notPass notHorizontal =>
    cases h2 with
    | pass => exact absurd mode notPass
    | vertical notPass' notHorizontal' => exact ⟨congrArg _ mode, rest⟩
    | horizontal n1 n2 => exact absurd mode notHorizontal
  | horizontal n1 n2 =>
    cases h2 with
    | pass => cases mode
    | vertical notPass notHorizontal => exact absurd mode.symm notHorizontal
    | horizontal n1' n2' =>
      simp only [stepRuns, List.append_assoc] at rest
      obtain ⟨first, rest⟩ := runBits_append_inj rest
      obtain ⟨second, rest⟩ := runBits_append_inj rest
      exact ⟨by rw [first, second], rest⟩

/-! ### Lines -/

/-- The bits of the coding steps of two lines against one reference, from the same a0 and COLOR on, are the same only where
the steps are. -/
theorem stepsFrom_eq_of_append_eq {ref c1 c2 : List Nat} {w : Nat} (wfRef : seqWf w ref = true) (wf1 : seqWf w c1 = true)
    (wf2 : seqWf w c2 = true) {fuel : Nat} {a0 : Int} {c : Colour} {x y : Bits}
    (h : (stepsFrom ref c1 w fuel a0 c).flatMap CodingStep.bits ++ x
      = (stepsFrom ref c2 w fuel a0 c).flatMap CodingStep.bits ++ y) :
    stepsFrom ref c1 w fuel a0 c = stepsFrom ref c2 w fuel a0 c ∧ x = y := by
  induction fuel generalizing a0 c with
  | zero => exact ⟨rfl, h⟩
  | succ fuel ih =>
    unfold stepsFrom at h ⊢
    split at h
    · rename_i ha
      simp only [List.flatMap_cons, List.append_assoc] at h
      obtain ⟨step, rest⟩ := (chooseStep_stepIn ref c1 w a0 c).eq_of_append_eq (chooseStep_stepIn ref c2 w a0 c) h
      have next : (chooseStep ref c1 w a0 c).2 = (chooseStep ref c2 w a0 c).2 := by
        rw [← (readStep_chooseStep wfRef wf1 ha c).1, step, (readStep_chooseStep wfRef wf2 ha c).1]
      rw [step, next] at rest
      obtain ⟨steps, rest⟩ := ih rest
      simp only [if_pos ha]
      exact ⟨by rw [step, next, steps], rest⟩
    · rename_i ha
      simp only [if_neg ha]
      exact ⟨trivial, h⟩

/-- Settles O43: the steps are read back to the line, and the bits to the steps. -/
theorem lineCodingLosesNothing : Obligations.LineCodingLosesNothing := by
  intro ref c1 c2 w wfRef wf1 wf2
  have ofSteps (h : lineSteps ref c1 w = lineSteps ref c2 w) : c1 = c2 := by
    rw [← readSteps_lineSteps wfRef wf1, h, readSteps_lineSteps wfRef wf2]
  refine ⟨ofSteps, fun r1 r2 h => ?_⟩
  obtain ⟨steps, rest⟩ := stepsFrom_eq_of_append_eq wfRef wf1 wf2 h
  exact ⟨ofSteps steps, rest⟩

end Sys2Proof.Machine
end

section
/-! PROOFS. O31, O34: codewords and EOFB enter the stream by EMIT (43_bitpacker.md R200, R208). -/

namespace Sys2Proof.Machine

theorem settle_emitBits {s : State} (clean : s.accClean = true) {bs : Bits} (room : s.room bs = true) :
    settle (emitBits bs s) = .next (s.emitted bs) :=
  congrArg settle (emitBits_of_room clean room).1

/-- Settles O31, by the kind of the codeword. -/
theorem codewordsEnterTheStream : Obligations.CodewordsEnterTheStream := by
  intro i cw s hi notMode clean room
  rw [exec_of_codeword hi]
  cases cw with
  | mode m => exact absurd rfl (notMode m)
  | run r => exact settle_emitBits clean room
  | eol => exact settle_emitBits clean room

theorem exec_eofb (s : State) : exec .eofb s = settle (emitEofb s) := rfl

/-- EOFB is one emission of the two EOLs, or nothing (R208). -/
theorem emitEofb_eq (s : State) :
    emitEofb s = if s.params.eofb then emitBits (eolRow.bits ++ eolRow.bits) s else .ok s := by
  rw [emitBits_append, emitEofb]

/-- Settles O34, by the parameter. -/
theorem eofbFollowsItsParameter : Obligations.EofbFollowsItsParameter := by
  refine ⟨fun s on clean room => ?_, fun s off => ?_, rfl⟩
  · rw [exec_eofb, emitEofb_eq, if_pos on, settle_emitBits clean room]
  · rw [exec_eofb, emitEofb_eq, off, if_neg Bool.false_ne_true, settle]

end Sys2Proof.Machine
end

section
/-! PROOFS. O6: the operands that INIT refuses (30_encoding.md R111, 44_session_commands.md R221). -/

namespace Sys2Proof.Machine

theorem initLegal_eq_false_iff {p : Params} {width : BitVec 16} {height : BitVec 32} {bitOrder sink : BitVec 8} :
    initLegal p width height bitOrder sink = false ↔
      width.toNat = 0 ∨ p.maxTransitions < width.toNat ∨ height.toNat = 0 ∨ 1 < bitOrder.toNat ∨ 1 < sink.toNat := by
  rw [← Bool.not_eq_true, initLegal_iff]
  omega

theorem bitOrderOf_eq_msbFirst_iff (v : BitVec 8) : bitOrderOf v = .msbFirst ↔ v.toNat = 0 := by
  simp [bitOrderOf, ← BitVec.toNat_inj]

theorem sinkOf_eq_fixed_iff (v : BitVec 8) : sinkOf v = .fixed ↔ v.toNat = 0 := by
  simp [sinkOf, ← BitVec.toNat_inj]

/-- Settles O6, by whether INIT starts a session or refuses. -/
theorem initRefusesIllegalOperands : Obligations.InitRefusesIllegalOperands := by
  intro width height bitOrder sink cap s
  rw [← initLegal_eq_false_iff]
  obtain ⟨legal, e⟩ | ⟨illegal, e⟩ := exec_init_cases width height bitOrder sink cap s
  · exact ⟨_, e, by simp [legal], by simp,
      fun _ => ⟨rfl, rfl, bitOrderOf_eq_msbFirst_iff bitOrder, sinkOf_eq_fixed_iff sink, rfl⟩⟩
  · exact ⟨_, e, by simp [illegal], fun _ => ⟨rfl, rfl, rfl, rfl, rfl, rfl, rfl, rfl⟩, by simp⟩

end Sys2Proof.Machine
end

section
/-! PROOFS. O18, O19, O20, O17: what EXTRACT builds and from which bits, and that it writes the current buffer only
(40_transition_extractor.md R131 to R136). -/

namespace Sys2Proof.Machine

/-! ### Colours -/

theorem eq_black_iff_ne_white (c : Colour) : c = .black ↔ ¬ c = .white := by cases c <;> decide

/-- Of two different colours a pixel has exactly one. -/
theorem eq_iff_not_eq_of_ne {c p q : Colour} (h : ¬ p = q) : c = q ↔ ¬ c = p := by
  cases c <;> cases p <;> cases q <;> simp_all

/-! ### The entries of a transition sequence -/

theorem extractFrom_cons_same {pixel : Nat → Colour} {x : Nat} {prev : Colour} (n : Nat) (h : pixel x = prev) :
    extractFrom pixel (n + 1) x prev = extractFrom pixel n (x + 1) prev :=
  if_pos h

theorem extractFrom_cons_change {pixel : Nat → Colour} {x : Nat} {prev : Colour} (n : Nat) (h : ¬ pixel x = prev) :
    extractFrom pixel (n + 1) x prev = x :: extractFrom pixel n (x + 1) (pixel x) :=
  if_neg h

/-- The runs alternate in colour: at an entry of odd index one of the colour `prev` begins, and at an entry of even index one
of the other colour (R133 (e)). -/
theorem pixel_extractFrom_getElem? {pixel : Nat → Colour} {n x : Nat} {prev : Colour} {i e : Nat}
    (h : (extractFrom pixel n x prev)[i]? = some e) (inside : e < x + n) : pixel e = prev ↔ i % 2 = 1 := by
  induction n generalizing x prev i with
  | zero =>
    have := extractFrom_ge (List.mem_of_getElem? h)
    omega
  | succ n ih =>
    by_cases hp : pixel x = prev
    · rw [extractFrom_cons_same n hp] at h
      exact ih h (by omega)
    · rw [extractFrom_cons_change n hp] at h
      cases i with
      | zero =>
        obtain rfl : x = e := by simpa using h
        simp [hp]
      | succ i =>
        rw [eq_iff_not_eq_of_ne hp, ih (List.getElem?_cons_succ ▸ h) (by omega)]
        omega

/-- No entry lies left of the column that the loop has come to. -/
theorem countP_extractFrom_of_lt (pixel : Nat → Colour) {n x y : Nat} (prev : Colour) (h : y < x) :
    (extractFrom pixel n x prev).countP (fun e => decide (e ≤ y)) = 0 :=
  List.countP_eq_zero.2 fun e he => by
    have := extractFrom_ge he
    simp only [decide_eq_true_eq]
    omega

/-- A column has the colour `prev` iff an even number of changes lies at or left of it (R133 (f)). -/
theorem pixel_iff_countP_extractFrom {pixel : Nat → Colour} {n x y : Nat} (prev : Colour) (hxy : x ≤ y)
    (inside : y < x + n) :
    pixel y = prev ↔ (extractFrom pixel n x prev).countP (fun e => decide (e ≤ y)) % 2 = 0 := by
  induction n generalizing x prev with
  | zero => omega
  | succ n ih =>
    have rest (c : Colour) (hc : pixel x = c) :
        pixel y = c ↔ (extractFrom pixel n (x + 1) c).countP (fun e => decide (e ≤ y)) % 2 = 0 := by
      obtain rfl | h := Nat.eq_or_lt_of_le hxy
      · simp [hc, countP_extractFrom_of_lt]
      · exact ih c h (by omega)
    by_cases hp : pixel x = prev
    · rw [extractFrom_cons_same n hp]
      exact rest prev hp
    · rw [extractFrom_cons_change n hp, List.countP_cons_of_pos (by simpa using hxy), eq_iff_not_eq_of_ne hp,
        rest (pixel x) rfl]
      omega

theorem extractFrom_all_white (n x : Nat) : extractFrom (fun _ => .white) n x .white = [x + n] := by
  induction n generalizing x with
  | zero => rfl
  | succ n ih => rw [extractFrom_cons_same n rfl, ih, Nat.add_right_comm, Nat.add_assoc]

/-- Settles O18, with the facts of the loop at column 0 after a white pixel. -/
theorem extractedSequenceIsWellFormed : Obligations.ExtractedSequenceIsWellFormed := by
  intro pixel w
  have wf := extractSeq_wf pixel w
  obtain ⟨rise, last⟩ := (seqWf_iff w _).1 wf
  have boundary : w ∈ extractSeq pixel w := List.mem_of_getLast? last
  have distinct : (extractSeq pixel w).Nodup := rise.imp Nat.ne_of_lt
  refine ⟨List.length_pos_of_mem boundary, rise, last, List.count_eq_one_of_mem distinct boundary,
    fun i x entry inside => ?_, fun x inside => ?_, ?_, wf⟩
  · rw [eq_black_iff_ne_white, pixel_extractFrom_getElem? entry (by omega)]
    omega
  · rw [eq_black_iff_ne_white, pixel_iff_countP_extractFrom .white (Nat.zero_le x) (n := w) (by omega)]
    exact Nat.mod_two_ne_zero
  · rw [extractSeq, extractFrom_all_white, Nat.zero_add]

/-! ### Its length -/

/-- At most one entry per column, and the boundary entry (R134). -/
theorem extractFrom_length_le (pixel : Nat → Colour) (n x : Nat) (prev : Colour) :
    (extractFrom pixel n x prev).length ≤ n + 1 := by
  induction n generalizing x prev with
  | zero => rfl
  | succ n ih =>
    by_cases hp : pixel x = prev
    · rw [extractFrom_cons_same n hp]
      exact (ih (x + 1) prev).trans (Nat.le_succ _)
    · rw [extractFrom_cons_change n hp, List.length_cons]
      exact Nat.succ_le_succ (ih (x + 1) (pixel x))

/-- Where each pixel differs from the one before it, each column is an entry. -/
theorem extractFrom_alternating {pixel : Nat → Colour} (alternating : ∀ x, ¬ pixel (x + 1) = pixel x) (n : Nat) {x : Nat}
    {prev : Colour} (first : ¬ pixel x = prev) : extractFrom pixel n x prev = List.range' x (n + 1) := by
  induction n generalizing x prev with
  | zero => rfl
  | succ n ih =>
    rw [extractFrom_cons_change n first, ih (alternating x)]
    exact List.range'_succ.symm

/-- Settles O19, with one entry at most per iteration of the loop. -/
theorem transitionCountIsBounded : Obligations.TransitionCountIsBounded := by
  have bound (pixel : Nat → Colour) (w : Nat) : (extractSeq pixel w).length ≤ w + 1 :=
    extractFrom_length_le pixel w 0 .white
  refine ⟨bound, fun p pixel w fits => (bound pixel w).trans (Nat.succ_le_succ fits), fun w => ?_⟩
  rw [extractSeq, extractFrom_alternating (fun x => ?_) w (by decide), List.range_eq_range']
  have : (x + 1) % 2 = 0 ↔ ¬ x % 2 = 0 := by omega
  by_cases h : x % 2 = 0 <;> simp [this, h]

/-! ### Pixels -/

/-- A column of a byte that is there is black iff the bit at its place is 1 (R131). -/
theorem pix_eq_black_iff (order : BitOrder) {bytes : List Byte} {x : Nat} {b : Byte} (h : bytes[x / 8]? = some b) :
    pix order bytes x = .black ↔ b.getLsbD (bitPos order (x % 8)) = true := by
  rw [pix, List.getD_eq_getElem?_getD, h, Option.getD_some, Config.whiteValue]
  cases b.getLsbD (bitPos order (x % 8)) <;> simp

/-- Settles O20: bit `7 - j` and bit `j` are the places of the two bit orders, and mirror images of each other. -/
theorem pixelFollowsBitOrder : Obligations.PixelFollowsBitOrder :=
  ⟨fun _ _ _ byte => ⟨pix_eq_black_iff .msbFirst byte, pix_eq_black_iff .lsbFirst byte⟩,
    fun line w => lineSeq_map_rev8 w line⟩

/-! ### EXTRACT -/

theorem exec_extract (s : State) : exec .extract s = settle (extractLine s) := rfl

/-- Writing the current buffer writes one of the two transition buffers only (R132). -/
theorem setCur_eq (s : State) (t : List Nat) :
    s.setCur t = { s with tb0 := (s.setCur t).tb0, tb1 := (s.setCur t).tb1 } := by
  unfold State.setCur
  split <;> rfl

theorem takeError_failedFrom (e : ErrKind) (s : State) : failedFrom e s (takeError e s) :=
  ⟨rfl, rfl, rfl, rfl, rfl, rfl, rfl, rfl, rfl, rfl⟩

/-- Settles O17, by the three courses of EXTRACT. -/
theorem extractWritesCurrentBuffer : Obligations.ExtractWritesCurrentBuffer := by
  refine ⟨fun s width enough => ?_, fun s wide => ?_, fun s width short => ?_⟩
  · rw [exec_extract, extractLine_enough width enough]
    exact ⟨_, rfl, setCur_cur s _, setCur_ref s _, setCur_eq s _⟩
  · rw [exec_extract, extractLine_wide wide]
    exact ⟨_, rfl, takeError_failedFrom .invalidParameter s, rfl, rfl, rfl⟩
  · rw [exec_extract, extractLine_short width short, settle]

end Sys2Proof.Machine
end

section
/-! PROOFS. O10: an accepted line before the last one, as one emission of its codewords (42_mode_encoder.md R171, R188,
44_session_commands.md R222, R224). -/

namespace Sys2Proof.Machine

/-! ### A0 and COLOR -/

/-- The state with other values in A0 and COLOR. -/
def State.withPos (s : State) (a0 : Int) (c : Colour) : State := { s with a0 := a0, colour := c }

/-- A0 and COLOR play no part in an emission. -/
@[simp] theorem withPos_emitted (s : State) (a0 : Int) (c : Colour) (bs : Bits) :
    (s.withPos a0 c).emitted bs = (s.emitted bs).withPos a0 c := by
  cases h : s.cfg.sink <;> simp only [State.emitted, State.withPos, h] <;> rfl

@[simp] theorem withPos_withPos (s : State) (a0 a0' : Int) (c c' : Colour) :
    (s.withPos a0 c).withPos a0' c' = s.withPos a0' c' := rfl
@[simp] theorem withPos_self (s : State) : s.withPos s.a0 s.colour = s := rfl

/-! ### One emission after another -/

theorem andThen_congr {r : Res} {k l : State → Res} (h : ∀ u, r = .ok u → k u = l u) : r.andThen k = r.andThen l := by
  cases r with
  | ok u => exact h u rfl
  | _ => rfl

/-- Where the output takes a bit string and another one after it, the first is emitted, and then the second finds its room
and leaves what both leave together (R200). -/
theorem emitBits_of_room_append {s : State} (clean : s.accClean = true) {as bs : Bits} (room : s.room (as ++ bs) = true) :
    ∃ t, emitBits as s = .ok t ∧ t.accClean = true ∧ t.room bs = true ∧ t.emitted bs = s.emitted (as ++ bs) := by
  induction as generalizing s with
  | nil => exact ⟨s, rfl, clean, room, rfl⟩
  | cons a as ih =>
    obtain ⟨u, hpush, uclean, uroom, uemitted⟩ := pushBit_of_room clean room
    obtain ⟨t, hemit, tclean, troom, temitted⟩ := ih uclean uroom
    exact ⟨t, by rw [emitBits, hpush, andThen_ok, hemit], tclean, troom, temitted.trans uemitted⟩

/-! ### A coding step is one emission -/

/-- The coding step that a state is to take, with the a0 it leaves (R171). -/
def State.nextStep (s : State) : CodingStep × Int := chooseStep s.ref s.cur s.W s.a0 s.colour

theorem passStep_eq_emit (s : State) :
    passStep s = (emitBits CodingStep.pass.bits s).andThen fun t => .ok (t.withPos s.b2 s.colour) :=
  andThen_congr fun t ht => by rw [← (emitBits_frame (.inl ht)).colour]; rfl

/-- The mode codeword and the codewords of both runs are one bit string (R184, R200). -/
theorem horizontalStep_eq_emit {s : State} (wf : seqWf s.W s.cur = true) (ha : s.a0 < (s.W : Int)) :
    horizontalStep s =
      (emitBits (CodingStep.horizontal s.colour (firstRun s.a0 s.a1).toNat (secondRun s.a1 s.a2).toNat).bits s).andThen
        fun t => .ok (t.withPos s.a2 s.colour) := by
  obtain ⟨hfirst, hsecond⟩ := runs_nonneg wf ha
  calc horizontalStep s
    _ = (emitBits (CodingStep.horizontal s.colour (firstRun s.a0 s.a1).toNat (secondRun s.a1 s.a2).toNat).bits s).andThen
          fun t => .ok { t with a0 := (s.a2 : Int) } := by
      simp only [horizontalStep, CodingStep.bits, emitBits_append, andThen_assoc, emitRun_of_nonneg hfirst,
        emitRun_of_nonneg hsecond, runBits]
    _ = _ := andThen_congr fun t ht => by rw [← (emitBits_frame (.inl ht)).colour]; rfl

/-- An iteration of ENCODE_LINE emits the bits of its coding step, and writes A0 and COLOR (R171, R176 to R184). -/
theorem codingStep_eq_emit {s : State} (wf : seqWf s.W s.cur = true) (ha : s.a0 < (s.W : Int)) :
    codingStep s = (emitBits s.nextStep.1.bits s).andThen fun t =>
      .ok (t.withPos s.nextStep.2 (s.nextStep.1.colourAfter s.colour)) := by
  rw [codingStep_eq_modeStep]
  change modeStep (selectMode (aPair s.cur s.W s.a0).1 (bPair s.ref s.W s.a0 s.colour).1
    (bPair s.ref s.W s.a0 s.colour).2) s = _
  simp only [State.nextStep, chooseStep]
  cases selectMode (aPair s.cur s.W s.a0).1 (bPair s.ref s.W s.a0 s.colour).1 (bPair s.ref s.W s.a0 s.colour).2 with
  | pass => exact passStep_eq_emit s
  | horizontal => exact horizontalStep_eq_emit wf ha
  | _ => rfl

/-! ### A line is one emission -/

/-- No coding step leaves a0 beyond the line (R174). -/
theorem chooseStep_le {ref cur : List Nat} {w : Nat} {a0 : Int} (wfRef : seqWf w ref = true) (wfCur : seqWf w cur = true)
    (ha : a0 < (w : Int)) (c : Colour) : (chooseStep ref cur w a0 c).2 ≤ (w : Int) := by
  have a := changePair_ordered wfCur ha fun _ => true
  have b := changePair_ordered wfRef ha fun j => j % 2 == colourCode c
  change _ ∧ (aPair cur w a0).1 ≤ (aPair cur w a0).2 ∧ (aPair cur w a0).2 ≤ w at a
  change _ ∧ _ ∧ (bPair ref w a0 c).2 ≤ w at b
  obtain ⟨e, -⟩ | e | ⟨m, -, -, e, -⟩ := chooseStep_cases ref cur w a0 c <;> rw [e] <;> dsimp only <;> omega

/-- The coding steps that are left of a line, at most `fuel` of them. -/
def State.stepsLeft (s : State) (fuel : Nat) : List CodingStep := stepsFrom s.ref s.cur s.W fuel s.a0 s.colour

/-- The bits of those coding steps. -/
def State.bitsLeft (s : State) (fuel : Nat) : Bits := (s.stepsLeft fuel).flatMap CodingStep.bits

theorem stepsLeft_of_end {s : State} (h : s.a0 = (s.W : Int)) (fuel : Nat) : s.stepsLeft fuel = [] := by
  cases fuel <;> simp [State.stepsLeft, stepsFrom, h]

theorem stepsLeft_succ {s : State} (h : s.a0 < (s.W : Int)) (fuel : Nat) :
    s.stepsLeft (fuel + 1) = s.nextStep.1 ::
      stepsFrom s.ref s.cur s.W fuel s.nextStep.2 (s.nextStep.1.colourAfter s.colour) := by
  rw [State.stepsLeft, stepsFrom, if_pos h, State.nextStep]

/-- At the end of the line the loop has ended, and there is nothing left to emit. -/
theorem encodeLoop_of_end {s : State} (clean : s.accClean = true) (h : s.a0 = (s.W : Int)) (fuel : Nat) :
    encodeLoop fuel s = .ok ((s.emitted (s.bitsLeft fuel)).withPos s.W
      ((s.stepsLeft fuel).foldl CodingStep.colourAfter s.colour)) := by
  have ended : encodeLoop fuel s = .ok s := by cases fuel <;> simp [encodeLoop, h]
  rw [ended, State.bitsLeft, stepsLeft_of_end h, List.flatMap_nil, emitted_nil clean, List.foldl_nil, ← h, withPos_self]

theorem encodeLoop_succ {s : State} (h : s.a0 < (s.W : Int)) (fuel : Nat) :
    encodeLoop (fuel + 1) s = (codingStep s).andThen (encodeLoop fuel) :=
  if_pos h

/-- The coding step of `s` ends in `u`, on an output that takes its bits and those of the steps after it: the same line is
in the buffers, the steps after it are the ones left, and their emission leaves what that of all of them leaves. -/
structure StepTaken (fuel : Nat) (s u : State) : Prop where
  step : codingStep s = .ok u
  width : u.W = s.W
  ref : u.ref = s.ref
  cur : u.cur = s.cur
  a0 : u.a0 = s.nextStep.2
  colour : u.colour = s.nextStep.1.colourAfter s.colour
  left : s.stepsLeft (fuel + 1) = s.nextStep.1 :: u.stepsLeft fuel
  clean : u.accClean = true
  room : u.room (u.bitsLeft fuel) = true
  emitted : ∀ a0 c, (u.emitted (u.bitsLeft fuel)).withPos a0 c = (s.emitted (s.bitsLeft (fuel + 1))).withPos a0 c

theorem codingStep_of_room {fuel : Nat} {s : State} (wfCur : seqWf s.W s.cur = true) (clean : s.accClean = true)
    (ha : s.a0 < (s.W : Int)) (room : s.room (s.bitsLeft (fuel + 1)) = true) : ∃ u, StepTaken fuel s u := by
  have bits := congrArg (List.flatMap CodingStep.bits) (stepsLeft_succ ha fuel)
  rw [List.flatMap_cons] at bits
  rw [State.bitsLeft, bits] at room
  obtain ⟨t, hemit, tclean, troom, temitted⟩ := emitBits_of_room_append clean room
  obtain ⟨hW, href, hcur, -⟩ := (emitBits_frame (.inl hemit)).positions
  have left : (t.withPos s.nextStep.2 (s.nextStep.1.colourAfter s.colour)).stepsLeft fuel
      = stepsFrom s.ref s.cur s.W fuel s.nextStep.2 (s.nextStep.1.colourAfter s.colour) := by
    rw [← hW, ← href, ← hcur]
    rfl
  refine ⟨t.withPos s.nextStep.2 (s.nextStep.1.colourAfter s.colour),
    { step := by rw [codingStep_eq_emit wfCur ha, hemit, andThen_ok]
      width := hW, ref := href, cur := hcur, a0 := rfl, colour := rfl
      left := left ▸ stepsLeft_succ ha fuel
      clean := tclean
      room := by rwa [State.bitsLeft, left]
      emitted := fun a0 c => ?_ }⟩
  rw [State.bitsLeft, left, withPos_emitted, withPos_withPos, temitted, State.bitsLeft, bits]

/-- The loop of ENCODE_LINE on an output that takes the bits of the steps left: they are emitted, a0 ends at the end of the
line, and COLOR where the steps toggle it to (R171, R186). By induction on the steps, each an emission of its own. -/
theorem encodeLoop_of_room {fuel : Nat} {s : State} (wfRef : seqWf s.W s.ref = true) (wfCur : seqWf s.W s.cur = true)
    (clean : s.accClean = true) (inside : s.a0 ≤ (s.W : Int)) (enough : (s.W : Int) - s.a0 ≤ fuel)
    (room : s.room (s.bitsLeft fuel) = true) :
    encodeLoop fuel s = .ok ((s.emitted (s.bitsLeft fuel)).withPos s.W
      ((s.stepsLeft fuel).foldl CodingStep.colourAfter s.colour)) := by
  induction fuel generalizing s with
  | zero => exact encodeLoop_of_end clean (by omega) 0
  | succ fuel ih =>
    obtain h | h := inside.eq_or_lt
    · exact encodeLoop_of_end clean h (fuel + 1)
    · have progress : s.a0 < s.nextStep.2 := chooseStep_progress wfRef wfCur h s.colour
      have within : s.nextStep.2 ≤ (s.W : Int) := chooseStep_le wfRef wfCur h s.colour
      obtain ⟨u, taken⟩ := codingStep_of_room wfCur clean h room
      have rest := ih (s := u) (by rwa [taken.width, taken.ref]) (by rwa [taken.width, taken.cur]) taken.clean
        (by rwa [taken.width, taken.a0]) (by rw [taken.width, taken.a0]; omega) taken.room
      rw [encodeLoop_succ h, taken.step, andThen_ok, rest, taken.emitted, taken.left, List.foldl_cons, taken.width,
        taken.colour]

/-- ENCODE_LINE on an output that takes the line (R171, R188). -/
theorem encodeLine_of_room {s : State} (wfRef : seqWf s.W s.ref = true) (wfCur : seqWf s.W s.cur = true)
    (clean : s.accClean = true) (room : s.room (lineBits s.ref s.cur s.W) = true) : encodeLine s = .ok s.lineCoded := by
  have loop := encodeLoop_of_room (fuel := s.W + 1) (s := s.withPos (-1) .white) wfRef wfCur clean
    (by change (-1 : Int) ≤ s.W; omega) (by change (s.W : Int) - -1 ≤ (s.W + 1 : Nat); omega) room
  rw [withPos_emitted, withPos_withPos] at loop
  exact loop

/-! ### ADD_LINE -/

/-- The current buffer is none of the packer's registers. -/
theorem setCur_room_accClean (s : State) (t : List Nat) :
    (s.setCur t).room = s.room ∧ (s.setCur t).accClean = s.accClean := by
  unfold State.setCur
  split <;> exact ⟨rfl, rfl⟩

/-- An accepted line on an output that takes it is in LINE, in the current buffer and in the stream (R132, R171, R222). -/
theorem addLineBody_of_room {s : State} {line : List Byte} (width : s.W ≤ s.params.maxTransitions)
    (enough : ceil8 s.W ≤ line.length) (wfRef : seqWf s.W s.ref = true) (clean : s.accClean = true)
    (room : s.room (s.bitsOf line) = true) : addLineBody line s = finishRow (s.lineDone line) := by
  have extracted : extractLine { s with stateReg := .encoding, line := line } = .ok (s.extracted line) :=
    extractLine_enough (s := { s with stateReg := .encoding, line := line }) width enough
  have xW : (s.extracted line).W = s.W := by simp [State.extracted, State.W]
  have xref : (s.extracted line).ref = s.ref := setCur_ref _ _
  have xcur : (s.extracted line).cur = lineSeq s.cfg.bitOrder s.W line := setCur_cur _ _
  obtain ⟨xroom, xclean⟩ :=
    setCur_room_accClean { s with stateReg := .encoding, line := line } (lineSeq s.cfg.bitOrder s.W line)
  have coded : encodeLine (s.extracted line) = .ok (s.extracted line).lineCoded := by
    refine encodeLine_of_room ?_ ?_ (xclean.trans clean) ?_
    · rwa [xW, xref]
    · rw [xW, xcur]
      exact extractSeq_wf _ _
    · rw [xW, xref, xcur]
      exact (congrFun xroom _).trans room
  have counted : (s.extracted line).lineCoded.rows = s.rows := by simp [State.lineCoded, State.extracted]
  rw [addLineBody, extracted, andThen_ok, coded, andThen_ok, counted, State.lineDone]

/-- On a row that is not the last nothing more is done (R222). -/
theorem finishRow_other {s : State} (h : s.rows ≠ s.cfg.height) : finishRow s = .ok s := if_neg h

theorem lineDone_cfg (s : State) (line : List Byte) : (s.lineDone line).cfg = s.cfg := by
  simp [State.lineDone, State.lineCoded, State.extracted]

/-- Settles O10: EXTRACT, one emission, SWAP, and no end of the image. -/
theorem addLineEncodesScanline : Obligations.AddLineEncodesScanline := by
  intro line s accepting width enough wfRef clean room other
  have last : (s.lineDone line).rows ≠ (s.lineDone line).cfg.height := by rwa [lineDone_cfg]
  rw [exec_addLine_accepted accepting, addLineBody_of_room width enough wfRef clean room, finishRow_other last]
  rfl

end Sys2Proof.Machine
end

section
/-! PROOFS. O22, O21: the decomposition of a run, and RUN as an operation of its own (41_runlength_coder.md R150, R151,
R157). -/

namespace Sys2Proof.Machine

/-! ### The four ranges of a run length -/

theorem runTail_terminating {n : Nat} (h : n < 64) (c : Colour) : runTail n c = [.term c n] := by
  rw [runTail, if_pos h, Nat.mod_eq_of_lt h, List.nil_append]

theorem runTail_makeup {n : Nat} (lo : 64 ≤ n) (hi : n < 1792) (c : Colour) :
    runTail n c = [.makeup c (n / 64), .term c (n % 64)] := by
  rw [runTail, if_neg (by omega), if_neg (by omega), List.singleton_append]

theorem runTail_extended {n : Nat} (lo : 1792 ≤ n) (c : Colour) :
    runTail n c = [.ext (n / 64), .term c (n % 64)] := by
  rw [runTail, if_neg (by omega), if_pos (by omega), List.singleton_append]

theorem runCodes_of_lt {n : Nat} (h : n < 2560) (c : Colour) : runCodes n c = runTail n c := by
  rw [runCodes, Nat.div_eq_of_lt h, Nat.mod_eq_of_lt h, List.replicate_zero, List.nil_append]

/-- One turn of the loop of R151. -/
theorem runCodes_of_ge {n : Nat} (h : 2560 ≤ n) (c : Colour) : runCodes n c = .ext 40 :: runCodes (n - 2560) c := by
  rw [runCodes, runCodes, Nat.div_eq_sub_div (by decide) h, Nat.mod_eq_sub_mod h, List.replicate_succ, List.cons_append]

/-! ### Makeup codewords, then one terminating codeword -/

/-- None of the codewords is a terminating one, of either colour. -/
def NoTerm (rs : List RunCode) : Prop := ∀ r ∈ rs, ∀ c t, r ≠ .term c t

theorem runTail_eq_append_term (n : Nat) (c : Colour) :
    ∃ ms, runTail n c = ms ++ [.term c (n % 64)] ∧ NoTerm ms ∧ ms.length = if 64 ≤ n then 1 else 0 := by
  obtain short | long := Nat.lt_or_ge n 64
  · exact ⟨[], by rw [runTail_terminating short, Nat.mod_eq_of_lt short, List.nil_append], List.forall_mem_nil _,
      (if_neg (by omega)).symm⟩
  · obtain lo | hi := Nat.lt_or_ge n 1792
    · exact ⟨[.makeup c (n / 64)], runTail_makeup long lo c, by simp [NoTerm], (if_pos long).symm⟩
    · exact ⟨[.ext (n / 64)], runTail_extended hi c, by simp [NoTerm], (if_pos long).symm⟩

/-- The XM2560 copies and the makeup codeword of the rest stand before the one terminating codeword (R151). -/
theorem runCodes_eq_append_term (n : Nat) (c : Colour) :
    ∃ ms, runCodes n c = ms ++ [.term c (n % 2560 % 64)] ∧ NoTerm ms
      ∧ ms.length = n / 2560 + if 64 ≤ n % 2560 then 1 else 0 := by
  obtain ⟨ms, tail, noTerm, len⟩ := runTail_eq_append_term (n % 2560) c
  refine ⟨List.replicate (n / 2560) (.ext 40) ++ ms, by rw [runCodes, tail, List.append_assoc], fun r hr => ?_,
    by rw [List.length_append, List.length_replicate, len]⟩
  obtain copy | rest := List.mem_append.mp hr
  · simp [List.eq_of_mem_replicate copy]
  · exact noTerm r rest

/-- Settles O22: the four ranges by their equations, the rest from the place of the terminating codeword. -/
theorem runDecompositionIsGreedy : Obligations.RunDecompositionIsGreedy := by
  intro n c
  obtain ⟨ms, split, noTerm, len⟩ := runCodes_eq_append_term n c
  refine ⟨fun h => runCodes_of_ge h c, fun lo hi => ?_, fun lo hi => ?_, fun h => ?_, runCodes_sum n c, ?_, ?_, ?_⟩
  · rw [runCodes_of_lt hi, runTail_extended lo]
  · rw [runCodes_of_lt (by omega), runTail_makeup lo hi]
  · rw [runCodes_of_lt (by omega), runTail_terminating h]
  · rw [split, List.getLast?_concat]
  · rw [split, List.countP_append, List.countP_singleton, if_pos rfl, Nat.add_eq_right, List.countP_eq_zero]
    intro r hr
    cases r with
    | term d t => exact absurd rfl (noTerm _ hr d t)
    | makeup d k => exact Bool.false_ne_true
    | ext k => exact Bool.false_ne_true
  · rw [split, List.length_append, len, List.length_singleton]

/-! ### RUN -/

theorem runOf_of_nonneg {n : Int} (h : 0 ≤ n) (c : Colour) : runOf n c = some (runCodes n.toNat c) :=
  if_neg (Int.not_lt.mpr h)

theorem runOf_of_neg {n : Int} (h : n < 0) (c : Colour) : runOf n c = none := if_pos h

theorem exec_run (n : Int) (c : Colour) (s : State) : exec (.run n c) s = execRun n c s := rfl

/-- Settles O21, by the sign of the length. -/
theorem runReturnsCodewords : Obligations.RunReturnsCodewords := by
  refine ⟨fun n c s nonneg => ?_, fun n c s neg => ?_⟩
  · rw [exec_run, execRun, runOf_of_nonneg nonneg, settle]
  · rw [exec_run, execRun, runOf_of_neg neg, settle]
    exact ⟨_, rfl, takeError_failedFrom .invalidParameter s, rfl, rfl, rfl⟩

end Sys2Proof.Machine
end

section
/-! PROOFS. O36, O37, O38, O39: the choice of a coding step, and what each of the nine does when it is run by itself
(42_mode_encoder.md R171, R176 to R184). -/

namespace Sys2Proof.Machine

/-- Settles O36: along the tests of R171 in their order, each branch excludes the conditions of all the others. -/
theorem modeIsChosenInOrder : Obligations.ModeIsChosenInOrder := by
  intro a1 b1 b2
  unfold selectMode
  dsimp only
  split_ifs
  all_goals
    simp only [true_iff, false_iff]
    omega

/-! ### Steps run by themselves -/

theorem opp_eq_ite (c : Colour) : opp c = if c = .white then .black else .white := by cases c <;> rfl

/-- Settles O37: one emission, then A0. -/
theorem passStepMovesToB2 : Obligations.PassStepMovesToB2 := by
  intro s clean room
  have emit : emitBits Mode.pass.bits s = .ok (s.emitted [false, false, false, true]) := (emitBits_of_room clean room).1
  rw [exec_of_codeword (cw := .mode .pass) rfl]
  change settle (passStep s) = _
  rw [passStep, emit, andThen_ok, settle]

/-- A vertical step on an output that takes its codeword (R177 to R183). -/
theorem settle_verticalStep {m : Mode} {s : State} (clean : s.accClean = true) (room : s.room m.bits = true) :
    settle (verticalStep m s) = .next { s.emitted m.bits with
      a0 := (s.a1 : Int), colour := if s.colour = .white then .black else .white } := by
  rw [verticalStep, (emitBits_of_room clean room).1, andThen_ok, settle, opp_eq_ite]

/-- Settles O38: each of the seven operations is the vertical step of its codeword. -/
theorem verticalStepMovesToA1 : Obligations.VerticalStepMovesToA1 := by
  intro i cw s member clean room
  simp only [List.mem_cons, Prod.mk.injEq, List.not_mem_nil, or_false] at member
  obtain ⟨rfl, rfl⟩ | ⟨rfl, rfl⟩ | ⟨rfl, rfl⟩ | ⟨rfl, rfl⟩ | ⟨rfl, rfl⟩ | ⟨rfl, rfl⟩ | ⟨rfl, rfl⟩ := member
  · exact settle_verticalStep (m := .v0) clean room
  · exact settle_verticalStep (m := .vr1) clean room
  · exact settle_verticalStep (m := .vr2) clean room
  · exact settle_verticalStep (m := .vr3) clean room
  · exact settle_verticalStep (m := .vl1) clean room
  · exact settle_verticalStep (m := .vl2) clean room
  · exact settle_verticalStep (m := .vl3) clean room

/-- Horizontal with runs of no negative length is one emission, then A0 (R184). -/
theorem horizontalStep_of_nonneg {s : State} (first : 0 ≤ firstRun s.a0 s.a1) (second : 0 ≤ secondRun s.a1 s.a2) :
    horizontalStep s =
      (emitBits (Mode.horizontal.bits ++ runBits (firstRun s.a0 s.a1).toNat s.colour
        ++ runBits (secondRun s.a1 s.a2).toNat (opp s.colour)) s).andThen fun t => .ok { t with a0 := (s.a2 : Int) } := by
  simp only [horizontalStep, emitBits_append, andThen_assoc, emitRun_of_nonneg first, emitRun_of_nonneg second, runBits]

/-- Settles O39: the mode codeword and both runs are one emission, then A0. -/
theorem horizontalStepCodesTwoRuns : Obligations.HorizontalStepCodesTwoRuns := by
  intro s n1 n2 cw hn1 hn2 hcw clean room
  have first : firstRun s.a0 s.a1 = n1 := hn1.symm
  have second : secondRun s.a1 s.a2 = n2 := by unfold secondRun; omega
  have bits : Mode.horizontal.bits ++ runBits n1 s.colour ++ runBits n2 (opp s.colour) = cw := by
    rw [hcw, ← opp_eq_ite]
    rfl
  rw [exec_of_codeword (cw := .mode .horizontal) rfl]
  change settle (horizontalStep s) = _
  rw [horizontalStep_of_nonneg (by omega) (by omega), first, second, Int.toNat_natCast, Int.toNat_natCast, bits,
    (emitBits_of_room clean room).1, andThen_ok, settle]

end Sys2Proof.Machine
end

section
/-! PROOFS. O40, O41: the ranges of the four positions, and the progress and the bounds of a line (42_mode_encoder.md R174,
R186). -/

namespace Sys2Proof.Machine

/-! ### Positions -/

/-- Read with padding, a well-formed sequence rises strictly up to its width (R133). -/
theorem padded_lt_succ {w : Nat} {t : List Nat} (wf : seqWf w t = true) (i : Nat) :
    padded t w i < padded t w (i + 1) ∨ padded t w i = w := by
  obtain ⟨rise, last⟩ := (seqWf_iff w t).1 wf
  unfold padded
  obtain inner | boundary | beyond := lt_trichotomy (i + 1) t.length
  · rw [List.getD_eq_getElem _ _ (by omega), List.getD_eq_getElem _ _ inner]
    exact .inl (List.pairwise_iff_getElem.1 rise i (i + 1) (by omega) inner (by omega))
  · refine .inr ?_
    rw [List.getLast?_eq_getElem?, show t.length - 1 = i by omega] at last
    rw [List.getD_eq_getElem?_getD, last, Option.getD_some]
  · exact .inr (List.getD_eq_default _ _ (by omega))

/-- The two changes of a pair differ, unless the first one is the end of the line (R174). -/
theorem changePair_lt {w : Nat} {t : List Nat} (wf : seqWf w t = true) (a0 : Int) (test : Nat → Bool) :
    (changePair t w a0 test).1 < (changePair t w a0 test).2 ∨ (changePair t w a0 test).1 = w := by
  unfold changePair
  split
  · exact padded_lt_succ wf _
  · exact .inr rfl

/-- Settles O40: both pairs are pairs of changes right of a0. -/
theorem positionsKeepTheirOrder : Obligations.PositionsKeepTheirOrder := by
  intro ref cur w a0 c wfRef wfCur lo ha a b
  obtain ⟨aRight, aOrder, aInside⟩ := changePair_ordered wfCur ha fun _ => true
  obtain ⟨bRight, bOrder, bInside⟩ := changePair_ordered wfRef ha fun j => j % 2 == colourCode c
  have aStrict : a.1 < a.2 ∨ a.1 = w := changePair_lt wfCur a0 _
  have bStrict : b.1 < b.2 ∨ b.1 = w := changePair_lt wfRef a0 _
  change a0 < (a.1 : Int) at aRight
  change a.1 ≤ a.2 at aOrder
  change a.2 ≤ w at aInside
  change a0 < (b.1 : Int) at bRight
  change b.1 ≤ b.2 at bOrder
  change b.2 ≤ w at bInside
  refine ⟨aRight, aOrder, aInside, aStrict, bRight, bOrder, bInside, bStrict, ?_, ?_, ?_, ?_⟩ <;> omega

/-! ### What a coding step passes -/

/-- The first change of a pair is one of the entries right of a0 (R172, R173). -/
theorem changePair_fst_mem {w : Nat} {t : List Nat} (wf : seqWf w t = true) {a0 : Int} (ha : a0 < (w : Int))
    (test : Nat → Bool) : (changePair t w a0 test).1 ∈ remaining t a0 := by
  unfold changePair
  split
  · rename_i i found
    obtain ⟨-, x, entry, right⟩ := leastAbove_spec found
    have read : padded t w i = x := by simp_all [padded]
    exact mem_remaining.2 ⟨read ▸ List.mem_of_getElem? entry, read ▸ right⟩
  · exact mem_remaining.2 ⟨List.mem_of_getLast? ((seqWf_iff w t).1 wf).2, ha⟩

theorem remaining_length_le (t : List Nat) {a0 b : Int} (h : a0 ≤ b) :
    (remaining t b).length ≤ (remaining t a0).length := by
  rw [← remaining_remaining t h]
  exact List.length_filter_le _ _

/-- An entry that a0 passes is no longer among the remaining ones. -/
theorem remaining_length_lt {t : List Nat} {a0 b : Int} {x : Nat} (mem : x ∈ remaining t a0) (passed : (x : Int) ≤ b) :
    (remaining t b).length < (remaining t a0).length := by
  obtain ⟨-, right⟩ := mem_remaining.1 mem
  rw [← remaining_remaining t (by omega : a0 ≤ b)]
  exact List.length_filter_lt_length_iff_exists.2 ⟨x, mem, by simpa using passed⟩

/-- Pass leaves an entry of the reference behind, every other coding step one of the current line (R186). -/
theorem chooseStep_passes {ref cur : List Nat} {w : Nat} {a0 : Int} (wfRef : seqWf w ref = true)
    (wfCur : seqWf w cur = true) (ha : a0 < (w : Int)) (c : Colour) :
    ((chooseStep ref cur w a0 c).1 = .pass
        ∧ (remaining ref (chooseStep ref cur w a0 c).2).length < (remaining ref a0).length)
    ∨ ((chooseStep ref cur w a0 c).1 ≠ .pass
        ∧ (remaining cur (chooseStep ref cur w a0 c).2).length < (remaining cur a0).length) := by
  have a1 : (aPair cur w a0).1 ∈ remaining cur a0 := changePair_fst_mem wfCur ha _
  have b1 : (bPair ref w a0 c).1 ∈ remaining ref a0 := changePair_fst_mem wfRef ha _
  obtain ⟨-, aOrder, -⟩ := changePair_ordered wfCur ha fun _ => true
  obtain ⟨-, bOrder, -⟩ := changePair_ordered wfRef ha fun j => j % 2 == colourCode c
  obtain ⟨e, -⟩ | e | ⟨m, -, -, e, -⟩ := chooseStep_cases ref cur w a0 c <;> rw [e]
  · exact .inl ⟨rfl, remaining_length_lt b1 (Int.ofNat_le.2 bOrder)⟩
  · exact .inr ⟨by simp, remaining_length_lt a1 (Int.ofNat_le.2 aOrder)⟩
  · exact .inr ⟨by simp, remaining_length_lt a1 le_rfl⟩

/-- What the coding steps of a line cost together, where Pass costs at most `q` and every other step at most `p`: each entry
of the current line is paid for at most once with `p`, each of the reference with `q`. -/
theorem sum_stepsFrom_le {ref cur : List Nat} {w : Nat} (wfRef : seqWf w ref = true) (wfCur : seqWf w cur = true)
    {cost : CodingStep → Nat} {p q : Nat} (pass : cost .pass ≤ q)
    (other : ∀ a0 c, a0 < (w : Int) → (chooseStep ref cur w a0 c).1 ≠ .pass → cost (chooseStep ref cur w a0 c).1 ≤ p)
    (fuel : Nat) (a0 : Int) (c : Colour) :
    ((stepsFrom ref cur w fuel a0 c).map cost).sum ≤ p * (remaining cur a0).length + q * (remaining ref a0).length := by
  induction fuel generalizing a0 c with
  | zero => exact Nat.zero_le _
  | succ fuel ih =>
    unfold stepsFrom
    split
    · rename_i ha
      have progress := (chooseStep_progress wfRef wfCur ha c).le
      have rest := ih (chooseStep ref cur w a0 c).2 ((chooseStep ref cur w a0 c).1.colourAfter c)
      have curKept := Nat.mul_le_mul_left p (remaining_length_le cur progress)
      have refKept := Nat.mul_le_mul_left q (remaining_length_le ref progress)
      simp only [List.map_cons, List.sum_cons]
      obtain ⟨e, fewer⟩ | ⟨notPass, fewer⟩ := chooseStep_passes wfRef wfCur ha c
      · have paid := Nat.mul_le_mul_left q (Nat.succ_le_of_lt fewer)
        rw [Nat.mul_succ] at paid
        rw [e] at rest ⊢
        omega
      · have paid := Nat.mul_le_mul_left p (Nat.succ_le_of_lt fewer)
        rw [Nat.mul_succ] at paid
        have := other a0 c ha notPass
        omega
    · exact Nat.zero_le _

theorem remaining_start (t : List Nat) : remaining t (-1) = t := remaining_eq_self fun x _ => by omega

/-! ### Bits of a coding step -/

/-- A terminating codeword has at most 12 bits, the codeword before it at most 13 (R101 to R106). -/
theorem runTail_bits_length_le {n : Nat} (h : n < 2560) (c : Colour) :
    ((runTail n c).flatMap RunCode.bits).length ≤ 25 := by
  have term : ∀ t < 64, (RunCode.term c t).bits.length ≤ 12 := by cases c <;> decide +kernel
  have makeup : ∀ k < 28, (RunCode.makeup c k).bits.length ≤ 13 := by cases c <;> decide +kernel
  have ext : ∀ k < 40, (RunCode.ext k).bits.length ≤ 13 := by decide +kernel
  have last := term (n % 64) (Nat.mod_lt n (by decide))
  obtain short | long := Nat.lt_or_ge n 64
  · rw [runTail_terminating short, List.flatMap_singleton, ← Nat.mod_eq_of_lt short]
    omega
  · obtain lo | hi := Nat.lt_or_ge n 1792
    · rw [runTail_makeup long lo, List.flatMap_cons, List.flatMap_singleton, List.length_append]
      have := makeup (n / 64) (by omega)
      omega
    · rw [runTail_extended hi, List.flatMap_cons, List.flatMap_singleton, List.length_append]
      have := ext (n / 64) (by omega)
      omega

theorem runBits_length_le {n : Nat} (h : n < 2560) (c : Colour) : (runBits n c).length ≤ 25 := by
  rw [runBits, runCodes_of_lt h]
  exact runTail_bits_length_le h c

theorem mode_bits_length (m : Mode) : 1 ≤ m.bits.length ∧ m.bits.length ≤ 7 := by cases m <;> decide

/-- In a line of at most 2559 columns no coding step has more than 53 bits (R186). -/
theorem chooseStep_bits_length_le {ref cur : List Nat} {w : Nat} {a0 : Int} (wfCur : seqWf w cur = true)
    (ha : a0 < (w : Int)) (fits : w ≤ 2559) (c : Colour) : (chooseStep ref cur w a0 c).1.bits.length ≤ 53 := by
  obtain ⟨-, order, inside⟩ := changePair_ordered wfCur ha fun _ => true
  change (aPair cur w a0).1 ≤ (aPair cur w a0).2 at order
  change (aPair cur w a0).2 ≤ w at inside
  obtain ⟨e, -⟩ | e | ⟨m, -, -, e, -⟩ := chooseStep_cases ref cur w a0 c <;> rw [e]
  · exact (mode_bits_length .pass).2.trans (by decide)
  · have first : (firstRun a0 (aPair cur w a0).1).toNat < 2560 := by unfold firstRun; omega
    have second : (secondRun (aPair cur w a0).1 (aPair cur w a0).2).toNat < 2560 := by unfold secondRun; omega
    have mode : Mode.horizontal.bits.length = 3 := rfl
    have := runBits_length_le first c
    have := runBits_length_le second (opp c)
    simp only [CodingStep.bits, List.length_append]
    omega
  · exact (mode_bits_length m).2.trans (by decide)

theorem codingStep_bits_length_pos (st : CodingStep) : 1 ≤ st.bits.length := by
  rw [codingStep_bits, List.length_append]
  exact (mode_bits_length (stepMode st)).1.trans (Nat.le_add_right _ _)

/-! ### Lines -/

/-- No coding step is taken at the end of the line. -/
theorem stepsFrom_of_end {ref cur : List Nat} {w : Nat} {a0 : Int} (ended : (w : Int) ≤ a0) (fuel : Nat) (c : Colour) :
    stepsFrom ref cur w fuel a0 c = [] := by
  cases fuel with
  | zero => rfl
  | succ fuel => exact if_neg (not_lt.2 ended)

/-- A line is at its end after at most as many coding steps as it has columns left, so that more fuel gives no more steps. -/
theorem stepsFrom_of_enough {ref cur : List Nat} {w : Nat} (wfRef : seqWf w ref = true) (wfCur : seqWf w cur = true)
    (extra : Nat) {fuel : Nat} {a0 : Int} (enough : (w : Int) - a0 ≤ fuel) (c : Colour) :
    stepsFrom ref cur w (fuel + extra) a0 c = stepsFrom ref cur w fuel a0 c := by
  induction fuel generalizing a0 c with
  | zero => rw [stepsFrom_of_end (by omega), stepsFrom]
  | succ fuel ih =>
    rw [Nat.add_right_comm, stepsFrom, stepsFrom]
    split
    · rename_i ha
      have progress := chooseStep_progress wfRef wfCur ha c
      simp only [ih (show (w : Int) - (chooseStep ref cur w a0 c).2 ≤ fuel by omega)]
    · rfl

/-- A line has a first coding step, because A0 starts left of it. -/
theorem lineSteps_eq_cons (ref cur : List Nat) (w : Nat) :
    lineSteps ref cur w = (chooseStep ref cur w (-1) .white).1 ::
      stepsFrom ref cur w w (chooseStep ref cur w (-1) .white).2
        ((chooseStep ref cur w (-1) .white).1.colourAfter .white) := by
  rw [lineSteps, stepsFrom, if_pos (by omega)]

/-- Settles O41: the progress of each step, and the steps paid for by the entries that they pass. -/
theorem lineCodingTerminatesInBounds : Obligations.LineCodingTerminatesInBounds := by
  intro ref cur w wfRef wfCur
  refine ⟨fun a0 c _ ha => ⟨chooseStep_progress wfRef wfCur ha c, chooseStep_le wfRef wfCur ha c⟩, ?_, ?_, fun fits => ?_,
    fun extra => stepsFrom_of_enough wfRef wfCur extra (by omega) .white⟩
  · have steps := sum_stepsFrom_le wfRef wfCur (cost := fun _ => 1) (p := 1) (q := 1) le_rfl (fun _ _ _ _ => le_rfl)
      (w + 1) (-1) .white
    simpa [remaining_start, lineSteps] using steps
  · rw [lineBits, lineSteps_eq_cons, List.flatMap_cons, List.length_append]
    exact (codingStep_bits_length_pos _).trans (Nat.le_add_right _ _)
  · have bits := sum_stepsFrom_le wfRef wfCur (cost := fun st => st.bits.length) (p := 53) (q := 4) le_rfl
      (fun _ c ha _ => chooseStep_bits_length_le wfCur ha fits c) (w + 1) (-1) .white
    rwa [remaining_start, remaining_start, ← List.length_flatMap] at bits

end Sys2Proof.Machine
end

section
/-! PROOFS. O42, O44: a line equal to the one above, and ENCODE_LINE as an operation of its own (42_mode_encoder.md R171,
R188). -/

namespace Sys2Proof.Machine

/-! ### The change that follows a0 -/

/-- Entries that a0 has reached are passed over. -/
theorem leastAbove_append {a0 : Int} {pre : List Nat} (reached : ∀ y ∈ pre, (y : Int) ≤ a0) (test : Nat → Bool)
    (t : List Nat) (k : Nat) : leastAbove a0 test (pre ++ t) k = leastAbove a0 test t (k + pre.length) := by
  induction pre generalizing k with
  | nil => rfl
  | cons y pre ih =>
    obtain ⟨hy, rest⟩ := List.forall_mem_cons.1 reached
    rw [List.cons_append, leastAbove, if_neg (by simpa using fun _ => hy), ih rest, List.length_cons]
    congr 1
    omega

/-- The entry after those that a0 has reached is found where its index passes the test, and the next one is read with it
(R172, R173). -/
theorem changePair_append {a0 : Int} {pre : List Nat} {x : Nat} (reached : ∀ y ∈ pre, (y : Int) ≤ a0)
    (right : a0 < (x : Int)) {test : Nat → Bool} (passes : test pre.length = true) (xs : List Nat) (w : Nat) :
    changePair (pre ++ x :: xs) w a0 test = (x, xs.headD w) := by
  have found : leastAbove a0 test (pre ++ x :: xs) 0 = some pre.length := by
    rw [leastAbove_append reached, Nat.zero_add, leastAbove, if_pos (by simp [passes, right])]
  rw [changePair, found]
  cases xs <;> simp [padded]

/-- Where the two lines agree and COLOR has the parity of the next change, that change is coded by V0 (R171, R177). -/
theorem chooseStep_same {a0 : Int} {pre : List Nat} {x : Nat} {xs : List Nat} {w : Nat} {c : Colour}
    (wf : seqWf w (pre ++ x :: xs) = true) (reached : ∀ y ∈ pre, (y : Int) ≤ a0) (right : a0 < (x : Int))
    (parity : pre.length % 2 = colourCode c) :
    chooseStep (pre ++ x :: xs) (pre ++ x :: xs) w a0 c = (.vertical .v0, (x : Int)) := by
  have a : aPair (pre ++ x :: xs) w a0 = (x, xs.headD w) := changePair_append reached right rfl xs w
  have b : bPair (pre ++ x :: xs) w a0 c = (x, xs.headD w) := changePair_append reached right (by simp [parity]) xs w
  have inside : x ≤ w := le_of_mem_of_seqWf wf (by simp)
  obtain ⟨-, order, -⟩ := changePair_ordered wf (a0 := a0) (by omega) fun _ => true
  change (aPair (pre ++ x :: xs) w a0).1 ≤ (aPair (pre ++ x :: xs) w a0).2 at order
  rw [a] at order
  obtain ⟨-, v0, -⟩ := modeIsChosenInOrder x x (xs.headD w)
  simp only [chooseStep, a, b, v0.2 ⟨order, rfl⟩]

theorem colourCode_opp {n : Nat} {c : Colour} (h : n % 2 = colourCode c) : (n + 1) % 2 = colourCode (opp c) := by
  cases c <;> simp only [colourCode, opp] at h ⊢ <;> omega

/-- Where the two lines agree, what is left of them is coded by one V0 per entry. -/
theorem stepsFrom_same {w : Nat} {pre xs : List Nat} (wf : seqWf w (pre ++ xs) = true) {fuel : Nat} {a0 : Int}
    {c : Colour} (enough : (w : Int) - a0 ≤ fuel) (reached : ∀ y ∈ pre, (y : Int) ≤ a0)
    (right : ∀ y ∈ xs, a0 < (y : Int)) (parity : pre.length % 2 = colourCode c) :
    stepsFrom (pre ++ xs) (pre ++ xs) w fuel a0 c = List.replicate xs.length (.vertical .v0) := by
  obtain ⟨rise, last⟩ := (seqWf_iff w _).1 wf
  induction xs generalizing pre fuel a0 c with
  | nil =>
    rw [List.append_nil] at last
    rw [stepsFrom_of_end (reached w (List.mem_of_getLast? last)), List.length_nil, List.replicate_zero]
  | cons x xs ih =>
    have hx : a0 < (x : Int) := right x List.mem_cons_self
    have inside : x ≤ w := le_of_mem_of_seqWf wf (by simp)
    obtain ⟨fuel, rfl⟩ : ∃ n, fuel = n + 1 := Nat.exists_eq_succ_of_ne_zero (by omega)
    have next : pre ++ x :: xs = (pre ++ [x]) ++ xs := by simp
    have above : ∀ y ∈ xs, (x : Int) < (y : Int) := fun y hy =>
      Int.ofNat_lt.2 ((List.pairwise_cons.1 (List.pairwise_append.1 rise).2.1).1 y hy)
    have rest := ih (pre := pre ++ [x]) (fuel := fuel) (a0 := (x : Int)) (c := opp c) (next ▸ wf) (by omega)
      (fun y hy => ?_) above (by simpa using colourCode_opp parity) (next ▸ rise) (next ▸ last)
    · rw [stepsFrom, if_pos (by omega), chooseStep_same wf reached hx parity]
      simp only [CodingStep.colourAfter]
      rw [next, rest, List.length_cons, List.replicate_succ]
    · obtain hy | hy := List.mem_append.1 hy
      · exact (reached y hy).trans hx.le
      · rw [List.mem_singleton.1 hy]

theorem lineSteps_same {w : Nat} {t : List Nat} (wf : seqWf w t = true) :
    lineSteps t t w = List.replicate t.length (.vertical .v0) :=
  stepsFrom_same (pre := []) wf (by omega) (by simp) (fun y _ => by omega) rfl

theorem lineBits_same {w : Nat} {t : List Nat} (wf : seqWf w t = true) :
    lineBits t t w = List.replicate t.length true := by
  have v0 : (CodingStep.vertical .v0).bits = [true] := rfl
  rw [lineBits, lineSteps_same wf, List.flatMap_replicate, v0, List.flatten_replicate_singleton]

/-- Settles O42; the all-white line is the boundary entry alone. -/
theorem identicalLineIsAllVertical : Obligations.IdenticalLineIsAllVertical :=
  fun _ w wf => ⟨lineSteps_same wf, lineBits_same wf, lineBits_same (t := [w]) (by simp [seqWf, rising])⟩

theorem exec_encodeLine (s : State) : exec .encodeLine s = settle (encodeLine s) := rfl

/-- Settles O44: the loop is one emission of the bits of its steps. -/
theorem encodeLineEmitsLineCodes : Obligations.EncodeLineEmitsLineCodes := by
  intro s wfRef wfCur clean room
  rw [exec_encodeLine, encodeLine_of_room wfRef wfCur clean room, settle, State.lineCoded]

end Sys2Proof.Machine
end

section
/-! PROOFS. Bytes handed over in two parts, and the bytes of two bit strings emitted one after the other (43_bitpacker.md
R200 to R207). -/

namespace Sys2Proof.Machine

/-! ### Bytes in two parts -/

/-- Segments are cut from the second part with what the first has left staged. -/
theorem segmentsOf_append (n : Nat) (stg as bs : List Byte) :
    segmentsOf n stg (as ++ bs) = ((segmentsOf n stg as).1 ++ (segmentsOf n (segmentsOf n stg as).2 bs).1,
      (segmentsOf n (segmentsOf n stg as).2 bs).2) := by
  induction as generalizing stg with
  | nil => rfl
  | cons a as ih =>
    by_cases full : stg.length + 1 = n
    · simp only [List.cons_append, segmentsOf_cons_full full, ih]
    · simp only [List.cons_append, segmentsOf_cons_staged full, ih]

theorem repliesOk_of_le {s : State} {m n : Nat} (h : s.repliesOk n = true) (le : m ≤ n) : s.repliesOk m = true := by
  simp only [State.repliesOk, beq_iff_eq] at h ⊢
  rw [← Nat.min_eq_left le, ← List.take_take, h, List.take_replicate]

/-- An output that takes two parts takes the first. -/
theorem takes_left {s : State} {as bs : List Byte} (h : s.takes (as ++ bs)) : s.takes as := by
  cases sink : s.cfg.sink with
  | fixed =>
    obtain ⟨quiet, fits⟩ := (takes_fixed sink _).1 h
    rw [List.length_append] at fits
    exact (takes_fixed sink _).2 ⟨quiet, by omega⟩
  | stream =>
    obtain ⟨quiet, staged, replies, fits⟩ := (takes_stream sink _).1 h
    rw [segmentsOf_append, List.length_append] at replies
    rw [segmentsOf_append, List.flatten_append, List.length_append] at fits
    exact (takes_stream sink _).2 ⟨quiet, staged, repliesOk_of_le replies (Nat.le_add_right _ _), by omega⟩

/-- An output that takes two parts takes the second after the first. -/
theorem takes_right {s : State} {as bs : List Byte} (h : s.takes (as ++ bs)) :
    (s.wrote as).takes bs ∧ (s.wrote as).wrote bs = s.wrote (as ++ bs) := by
  induction as generalizing s with
  | nil => rw [wrote_nil]; exact ⟨h, rfl⟩
  | cons a as ih =>
    obtain ⟨-, takes, wrote⟩ := writesFirst_of_takes h
    obtain ⟨-, -, first⟩ := writesFirst_of_takes (takes_left (as := a :: as) h)
    obtain ⟨rest, both⟩ := ih takes
    rw [← first]
    exact ⟨rest, both.trans wrote⟩

/-! ### Bits in two parts -/

theorem packBytes_add (order : BitOrder) (m n : Nat) (bs : Bits) :
    packBytes order (m + n) bs = packBytes order m bs ++ packBytes order n (bs.drop (8 * m)) := by
  induction m generalizing bs with
  | zero => simp [packBytes]
  | succ m ih =>
    rw [Nat.add_right_comm, packBytes, packBytes, ih, List.drop_drop, List.cons_append, Nat.mul_succ, Nat.add_comm 8]

theorem packBytes_append_left (order : BitOrder) {m : Nat} {as : Bits} (whole : 8 * m ≤ as.length) (bs : Bits) :
    packBytes order m (as ++ bs) = packBytes order m as := by
  induction m generalizing as with
  | zero => rfl
  | succ m ih =>
    rw [packBytes, packBytes, List.take_append_of_le_length (by omega), List.drop_append_of_le_length (by omega),
      ih (by rw [List.length_drop]; omega)]

theorem streamWith_length (s : State) (bs : Bits) : (s.streamWith bs).length = s.nb.toNat + bs.length := by
  simp [State.streamWith]

theorem leftover_length (s : State) (bs : Bits) : (s.leftover bs).length = (s.nb.toNat + bs.length) % 8 := by
  rw [State.leftover, List.length_drop, streamWith_length, State.bytesDone]
  omega

/-- The first whole bytes of a stream are those that its first part completes. -/
theorem packBytes_streamWith_append (s : State) (as bs : Bits) (n : Nat) :
    packBytes s.cfg.bitOrder (s.bytesDone as + n) (s.streamWith (as ++ bs))
      = s.newBytes as ++ packBytes s.cfg.bitOrder n (s.leftover as ++ bs) := by
  have whole : 8 * s.bytesDone as ≤ (s.streamWith as).length := by
    rw [streamWith_length, State.bytesDone]
    omega
  have stream : s.streamWith (as ++ bs) = s.streamWith as ++ bs := by simp [State.streamWith]
  rw [packBytes_add, stream, packBytes_append_left _ whole, List.drop_append_of_le_length whole, State.newBytes,
    State.leftover]

theorem pack_streamWith_append (s : State) (as bs : Bits) :
    pack s.cfg.bitOrder (s.streamWith (as ++ bs)) = s.newBytes as ++ pack s.cfg.bitOrder (s.leftover as ++ bs) := by
  have bytes : ceil8 (s.streamWith (as ++ bs)).length = s.bytesDone as + ceil8 (s.leftover as ++ bs).length := by
    simp only [streamWith_length, List.length_append, leftover_length, State.bytesDone, ceil8]
    omega
  rw [pack, bytes, packBytes_streamWith_append, pack]

/-! ### What an emission leaves in ACC -/

theorem emitted_acc_nb (s : State) (bs : Bits) : (s.emitted bs).acc = packByte s.cfg.bitOrder (s.leftover bs)
    ∧ (s.emitted bs).nb.toNat = (s.leftover bs).length := by
  have short := leftover_length s bs
  rw [emitted_eq_wrote]
  exact ⟨rfl, Nat.mod_eq_of_lt (by omega)⟩

theorem emitted_pending (s : State) (bs : Bits) : (s.emitted bs).pending = s.leftover bs := by
  obtain ⟨acc, nb⟩ := emitted_acc_nb s bs
  have short := leftover_length s bs
  refine List.ext_getElem (by rw [pending_length, nb]) fun j h1 h2 => ?_
  calc (s.emitted bs).pending[j]
      _ = (s.emitted bs).pending.getD j false := (List.getD_eq_getElem _ _ h1).symm
      _ = (s.leftover bs).getD j false := by
        rw [pending_getD, acc, emitted_cfg, getLsbD_packByte _ _ (by omega), nb, decide_eq_true h2, Bool.true_and]
      _ = (s.leftover bs)[j] := List.getD_eq_getElem _ _ h2

theorem emitted_accClean (s : State) (bs : Bits) : (s.emitted bs).accClean = true := by
  rw [accClean_iff_acc, emitted_pending, emitted_cfg]
  exact (emitted_acc_nb s bs).1

theorem newBytes_nil (s : State) : s.newBytes [] = [] :=
  List.length_eq_zero_iff.1 ((newBytes_length s []).trans (Nat.div_eq_of_lt s.nb.isLt))

/-- The bytes of two bit strings are those of the first, and those that the second completes after it. -/
theorem newBytes_append (s : State) (as bs : Bits) :
    s.newBytes (as ++ bs) = s.newBytes as ++ (s.emitted as).newBytes bs := by
  obtain ⟨-, nb⟩ := emitted_acc_nb s as
  have done : s.bytesDone (as ++ bs) = s.bytesDone as + (s.emitted as).bytesDone bs := by
    simp only [State.bytesDone, nb, leftover_length, List.length_append]
    omega
  have second : (s.emitted as).newBytes bs
      = packBytes s.cfg.bitOrder ((s.emitted as).bytesDone bs) (s.leftover as ++ bs) := by
    rw [State.newBytes, State.streamWith, emitted_pending, emitted_cfg]
  rw [State.newBytes, done, packBytes_streamWith_append, second]

/-- The byte that FLUSH_PARTIAL pads and writes, where bits are pending (R206). -/
def State.padBytes (s : State) : List Byte := if s.nb = 0 then [] else [s.acc]

/-- What is pending packs into the padded byte (R206, R207). -/
theorem pack_pending {s : State} (clean : s.accClean = true) : pack s.cfg.bitOrder s.pending = s.padBytes := by
  have short := s.nb.isLt
  unfold State.padBytes
  split
  · rename_i empty
    rw [pending_of_empty empty]
    rfl
  · rename_i some
    have pos : s.nb.toNat ≠ 0 := fun h => some (BitVec.eq_of_toNat_eq h)
    have one : ceil8 s.pending.length = 1 := by rw [pending_length, ceil8]; omega
    rw [pack, one, packBytes, packBytes, List.take_of_length_le (by rw [pending_length]; omega),
      ← (accClean_iff_acc s).1 clean]

/-- A stream packs into the bytes that its emission completes and the padded byte after them (R207). -/
theorem pack_streamWith (s : State) (bs : Bits) :
    pack s.cfg.bitOrder (s.streamWith bs) = s.newBytes bs ++ (s.emitted bs).padBytes := by
  have split := pack_streamWith_append s bs []
  rw [List.append_nil, List.append_nil] at split
  rw [split, ← emitted_pending, ← emitted_cfg s bs, pack_pending (emitted_accClean s bs)]

end Sys2Proof.Machine
end

section
/-! PROOFS. Where the output fails in the course of an ADD_LINE: the bytes before the failure are taken, and the failure ends
the command (44_session_commands.md R222, R232, 60_exceptions.md R258, R259). -/

namespace Sys2Proof.Machine

/-! ### Operations that do not come to their end -/

/-- The state with the registers that a raise leaves unspecified (R259), STG apart, and STATE, which it writes, set to fixed
values: the output port reads none of them. -/
def State.bare (s : State) : State :=
  { s with
    stateReg := .uninit
    rows := 0
    acc := 0
    nb := 0
    tb0 := []
    tb1 := []
    refsel := false
    a0 := 0
    colour := .white }

theorem bare_takes (s : State) : s.bare.takes = s.takes := rfl

theorem bare_wrote (s : State) (vs : List Byte) : (s.wrote vs).bare = s.bare.wrote vs := by
  cases h : s.cfg.sink
  · rw [wrote_fixed h, wrote_fixed (s := s.bare) h]
    rfl
  · rw [wrote_stream h, wrote_stream (s := s.bare) h]
    rfl

/-- ACC and NB are bare, so an emission and its bytes handed over differ in nothing else. -/
theorem bare_emitted (s : State) (bs : Bits) : (s.emitted bs).bare = (s.wrote (s.newBytes bs)).bare := by
  rw [emitted_eq_wrote]
  rfl

theorem takeError_congr {s t : State} (h : s.bare = t.bare) (e : ErrKind) : takeError e s = takeError e t :=
  show takeError e s.bare = takeError e t.bare by rw [h]

/-- What the output port reads is the same in two states that differ in other registers only. -/
theorem port_of_bare {s t : State} (h : t.bare = s.bare) : t.params = s.params ∧ t.cfg = s.cfg ∧ t.count = s.count
    ∧ t.stg = s.stg ∧ t.sinkReplies = s.sinkReplies ∧ t.resetIn = s.resetIn := by
  have field {α : Type} (f : State → α) : f t.bare = f s.bare := by rw [h]
  exact ⟨field State.params, field State.cfg, field State.count, field State.stg, field State.sinkReplies,
    field State.resetIn⟩

/-- The operation does not come to its end, and ends the command with the answer `o`. -/
def Res.Fails (r : Res) (o : Out) : Prop := (∀ t, r ≠ .ok t) ∧ settle r = o

theorem fails_raised (e : ErrKind) (s : State) : (Res.raised e s).Fails (.next (takeError e s)) :=
  ⟨by simp, rfl⟩

theorem not_fails_ok {s : State} {o : Out} : ¬ (Res.ok s).Fails o := fun h => h.1 s rfl

/-- No later part of the command runs (R258). -/
theorem Res.Fails.andThen {r : Res} {o : Out} (h : r.Fails o) (k : State → Res) : (r.andThen k).Fails o := by
  cases r with
  | ok s => exact absurd h not_fails_ok
  | _ => exact ⟨by simp, h.2⟩

theorem settleCommand_of_fails {r : Res} {o : Out} (h : r.Fails o) : settleCommand r = o :=
  (h.andThen _).2

/-! ### The byte at which the output fails -/

/-- The second part of FLUSH_PARTIAL: what is staged is pushed (R206). -/
def flushStaged (s : State) : Res := if s.cfg.sink = .stream ∧ s.stg ≠ [] then pushSegment s else .ok s

/-- The first of the output operations that are left: WRITE_BYTE, or after the last byte, where FLUSH_PARTIAL follows, its
push of what is staged. -/
def nextOutput (flush : Bool) : List Byte → State → Res
  | [] => if flush then flushStaged else .ok
  | v :: _ => writeByte v

/-- The output takes the first of the bytes `vs`, and then fails: the operation ends the command with the answer `o`,
whatever the registers hold that the output port does not read. -/
def FeedFails (flush : Bool) (o : Out) (s : State) (vs : List Byte) : Prop :=
  ∃ as rest, vs = as ++ rest ∧ s.takes as ∧ ∀ t, t.bare = (s.wrote as).bare → (nextOutput flush rest t).Fails o

theorem FeedFails.congr {flush : Bool} {o : Out} {s t : State} {vs : List Byte} (h : FeedFails flush o s vs)
    (same : t.bare = s.bare) : FeedFails flush o t vs := by
  obtain ⟨as, rest, parts, takes, fails⟩ := h
  refine ⟨as, rest, parts, ?_, fun u hu => fails u ?_⟩
  · rwa [← bare_takes, same, bare_takes]
  · rw [hu, bare_wrote, same, ← bare_wrote]

/-- The output fails in the first part, or it takes that part and fails after it. -/
theorem FeedFails.split {flush : Bool} {o : Out} {s : State} {as bs : List Byte} (h : FeedFails flush o s (as ++ bs)) :
    FeedFails false o s as ∨ s.takes as ∧ FeedFails flush o (s.wrote as) bs := by
  obtain ⟨taken, rest, parts, takes, fails⟩ := h
  obtain ⟨more, rfl, rfl⟩ | ⟨more, rfl, rfl⟩ := List.append_eq_append_iff.1 parts
  · have after := takes_right (as := as) takes
    exact .inr ⟨takes_left takes, more, rest, rfl, after.1, fun t ht => fails t (by rw [ht, after.2])⟩
  · cases more with
    | nil =>
      rw [List.append_nil] at parts ⊢
      have after := takes_right (as := taken) (bs := []) (by rwa [List.append_nil])
      exact .inr ⟨takes, [], bs, rfl, after.1, fun t ht => fails t (by rw [ht, wrote_nil])⟩
    | cons v more => exact .inl ⟨taken, v :: more, rfl, takes, fails⟩

/-- With no byte left only the push of what is staged can fail. -/
theorem FeedFails.nil {flush : Bool} {o : Out} {s : State} (h : FeedFails flush o s []) :
    flush = true ∧ (flushStaged s).Fails o := by
  obtain ⟨as, rest, parts, -, fails⟩ := h
  obtain ⟨rfl, rfl⟩ := List.append_eq_nil_iff.1 parts.symm
  have fails := fails s (by rw [wrote_nil])
  cases flush with
  | false => exact absurd fails not_fails_ok
  | true => exact ⟨rfl, fails⟩

theorem not_feedFails_nil {o : Out} {s : State} : ¬ FeedFails false o s [] := fun h => by simpa using h.nil.1

/-- Where nothing is emitted no output fails. -/
theorem not_feedFails_newBytes_nil {o : Out} {s : State} : ¬ FeedFails false o s (s.newBytes []) := by
  rw [newBytes_nil]
  exact not_feedFails_nil

/-- WRITE_BYTE with ACC emptied first: the byte is taken, or it fails. -/
theorem FeedFails.cons_cases {flush : Bool} {o : Out} {s : State} {v : Byte} {vs : List Byte}
    (h : FeedFails flush o s (v :: vs)) :
    (writeByte v (s.withAcc 0 0)).Fails o
    ∨ writeByte v (s.withAcc 0 0) = .ok ((s.wrote [v]).withAcc 0 0)
      ∧ FeedFails flush o ((s.wrote [v]).withAcc 0 0) vs := by
  obtain ⟨as, rest, parts, takes, fails⟩ | ⟨takes, rest⟩ := h.split (as := [v])
  · cases as with
    | nil =>
      obtain rfl : [v] = rest := parts
      exact .inl (fails _ (by rw [wrote_nil]; rfl))
    | cons a as =>
      obtain ⟨-, rfl, rfl⟩ : v = a ∧ as = [] ∧ rest = [] := by simpa using parts
      exact absurd (fails _ rfl) not_fails_ok
  · have write := (writesFirst_of_takes (s := s.withAcc 0 0) takes).write
    rw [withAcc_wrote] at write
    exact .inr ⟨write, rest.congr rfl⟩

/-! ### EMIT and ENCODE_LINE -/

/-- An emission fails where the output fails in its bytes, by induction on the bits (R200, R201). -/
theorem emitBits_fails {o : Out} {bs : Bits} {s : State} (clean : s.accClean = true)
    (h : FeedFails false o s (s.newBytes bs)) : (emitBits bs s).Fails o := by
  induction bs generalizing s with
  | nil => exact absurd h not_feedFails_newBytes_nil
  | cons b bs ih =>
    rw [emitBits]
    obtain ⟨notLast, e⟩ | ⟨last, e⟩ := pushBit_cases b s <;> rw [e]
    · rw [← (emitted_placed clean notLast b bs).1] at h
      exact ih (placed_accClean clean notLast b) (h.congr rfl)
    · rw [(completed_stream (t := (s.wrote [placeBit s.cfg.bitOrder s.acc s.nb b]).withAcc 0 0) last (by simp) rfl b bs).1,
        ← placeBit_eq_packByte clean] at h
      obtain fails | ⟨taken, rest⟩ := h.cons_cases
      · exact fails.andThen _
      · change ((writeByte _ (s.withAcc 0 0)).andThen _).Fails o
        rw [taken]
        exact ih (accClean_of_empty rfl) rest

/-- The loop of ENCODE_LINE fails where the output fails in the bytes of the steps left, by induction on the steps. -/
theorem encodeLoop_fails {o : Out} {fuel : Nat} {s : State} (wfRef : seqWf s.W s.ref = true)
    (wfCur : seqWf s.W s.cur = true) (clean : s.accClean = true) (inside : s.a0 ≤ (s.W : Int))
    (h : FeedFails false o s (s.newBytes (s.bitsLeft fuel))) : (encodeLoop fuel s).Fails o := by
  induction fuel generalizing s with
  | zero =>
    rw [State.bitsLeft, State.stepsLeft, stepsFrom, List.flatMap_nil] at h
    exact absurd h not_feedFails_newBytes_nil
  | succ fuel ih =>
    obtain ended | ha := inside.eq_or_lt
    · rw [State.bitsLeft, stepsLeft_of_end ended, List.flatMap_nil] at h
      exact absurd h not_feedFails_newBytes_nil
    · rw [State.bitsLeft, stepsLeft_succ ha, List.flatMap_cons, newBytes_append] at h
      rw [encodeLoop_succ ha, codingStep_eq_emit wfCur ha]
      obtain fails | ⟨takes, rest⟩ := h.split
      · exact ((emitBits_fails clean fails).andThen _).andThen _
      · have emit := (emitBits_of_room clean ((room_iff_takes _ _).2 takes)).1
        obtain ⟨hW, href, hcur, -⟩ := (emitBits_frame (.inl emit)).positions
        rw [emit, andThen_ok, andThen_ok]
        refine ih (s := (s.emitted s.nextStep.1.bits).withPos _ _) ?_ ?_ (emitted_accClean s _) ?_ ?_
        · change seqWf (s.emitted s.nextStep.1.bits).W (s.emitted s.nextStep.1.bits).ref = true
          rwa [hW, href]
        · change seqWf (s.emitted s.nextStep.1.bits).W (s.emitted s.nextStep.1.bits).cur = true
          rwa [hW, hcur]
        · change s.nextStep.2 ≤ ((s.emitted s.nextStep.1.bits).W : Int)
          rw [hW]
          exact chooseStep_le wfRef wfCur ha s.colour
        · rw [← hW, ← href, ← hcur] at rest
          exact rest.congr (bare_emitted s _)

/-- ENCODE_LINE fails where the output fails in the bytes of the line (R171, R188). -/
theorem encodeLine_fails {o : Out} {s : State} (wfRef : seqWf s.W s.ref = true) (wfCur : seqWf s.W s.cur = true)
    (clean : s.accClean = true) (h : FeedFails false o s (s.newBytes (lineBits s.ref s.cur s.W))) :
    (encodeLine s).Fails o :=
  encodeLoop_fails (s := s.withPos (-1) .white) wfRef wfCur clean (by change (-1 : Int) ≤ s.W; omega) (h.congr rfl)

/-! ### The end of the image -/

theorem emitEofb_eq_emitBits (s : State) : emitEofb s = emitBits (eofbBits s.params) s := by
  rw [emitEofb_eq, eofbBits]
  split <;> rfl

theorem flushPartial_eq (s : State) : flushPartial s =
    (if s.nb = 0 then .ok s else writeByte s.acc (s.withAcc 0 0)).andThen flushStaged := rfl

/-- FLUSH_PARTIAL fails in its padded byte, or in its push (R206). -/
theorem flushPartial_fails {o : Out} {s : State} (h : FeedFails true o s s.padBytes) : (flushPartial s).Fails o := by
  rw [flushPartial_eq]
  by_cases empty : s.nb = 0
  · rw [State.padBytes, if_pos empty] at h
    rw [if_pos empty]
    exact h.nil.2
  · rw [State.padBytes, if_neg empty] at h
    rw [if_neg empty]
    obtain fails | ⟨taken, rest⟩ := h.cons_cases
    · exact fails.andThen _
    · rw [taken]
      exact rest.nil.2

/-- The end of the image fails in EOFB or in FLUSH_PARTIAL (R222). -/
theorem finishRow_fails {o : Out} {s : State} (last : s.rows = s.cfg.height) (clean : s.accClean = true)
    (h : FeedFails true o s (pack s.cfg.bitOrder (s.streamWith (eofbBits s.params)))) : (finishRow s).Fails o := by
  rw [finishRow, if_pos last, emitEofb_eq_emitBits]
  rw [pack_streamWith] at h
  obtain fails | ⟨takes, rest⟩ := h.split
  · exact (emitBits_fails clean fails).andThen _
  · rw [(emitBits_of_room clean ((room_iff_takes _ _).2 takes)).1]
    exact (flushPartial_fails (rest.congr (bare_emitted s _))).andThen _

/-! ### ADD_LINE -/

/-- Taking a scanline writes registers only that the output port does not read (R132, R222). -/
theorem extracted_bare (s : State) (line : List Byte) :
    (s.extracted line).bare = ({ s with line := line } : State).bare := by
  cases h : s.refsel <;> simp only [State.extracted, State.setCur, h] <;> rfl

/-- The packer is as it was. -/
theorem extracted_newBytes (s : State) (line : List Byte) :
    (s.extracted line).newBytes = s.newBytes ∧ (s.extracted line).leftover = s.leftover := by
  cases h : s.refsel <;> simp only [State.extracted, State.setCur, h] <;> exact ⟨rfl, rfl⟩

/-- What ENCODE_LINE finds in the buffers. -/
theorem extracted_buffers (s : State) (line : List Byte) :
    (s.extracted line).W = s.W ∧ (s.extracted line).ref = s.ref
      ∧ (s.extracted line).cur = lineSeq s.cfg.bitOrder s.W line :=
  ⟨by simp [State.extracted, State.W], setCur_ref _ _, setCur_cur _ _⟩

theorem extracted_lineBits (s : State) (line : List Byte) :
    lineBits (s.extracted line).ref (s.extracted line).cur (s.extracted line).W = s.bitsOf line := by
  obtain ⟨hW, href, hcur⟩ := extracted_buffers s line
  rw [hW, href, hcur, State.bitsOf]

theorem lineDone_bare (s : State) (line : List Byte) :
    (s.lineDone line).bare = (({ s with line := line } : State).wrote (s.newBytes (s.bitsOf line))).bare := by
  have coded : (s.lineDone line).bare = ((s.extracted line).emitted (s.bitsOf line)).bare := by
    rw [← extracted_lineBits]
    rfl
  rw [coded, bare_emitted, (extracted_newBytes s line).1, bare_wrote, extracted_bare, ← bare_wrote]

theorem lineDone_pending (s : State) (line : List Byte) :
    (s.lineDone line).pending = s.leftover (s.bitsOf line) ∧ (s.lineDone line).accClean = true := by
  have packer : (s.lineDone line).pending = ((s.extracted line).emitted (s.bitsOf line)).pending := by
    rw [← extracted_lineBits]
    rfl
  refine ⟨?_, emitted_accClean (s.extracted line) _⟩
  rw [packer, emitted_pending, (extracted_newBytes s line).2]

theorem lineDone_params (s : State) (line : List Byte) : (s.lineDone line).params = s.params := by
  simp [State.lineDone, State.lineCoded, State.extracted]

/-- The bytes of the command are those that its line completes, and on the last row the rest of the stream with its padding
(R206, R207, R222). -/
theorem commandBytes_eq (s : State) (line : List Byte) :
    s.commandBytes line = s.newBytes (s.bitsOf line) ++
      if s.rows + 1 = s.cfg.height then
        pack s.cfg.bitOrder ((s.lineDone line).streamWith (eofbBits s.params))
      else [] := by
  have stream : (s.lineDone line).streamWith (eofbBits s.params) = s.leftover (s.bitsOf line) ++ eofbBits s.params := by
    rw [State.streamWith, (lineDone_pending s line).1]
  rw [State.commandBytes, stream, pack_streamWith_append]
  split
  · rfl
  · rw [List.append_nil]

/-- An accepted ADD_LINE fails where the output fails in the bytes of the command, or on the last row in the push after
them. -/
theorem addLineBody_fails {o : Out} {s : State} {line : List Byte} (width : s.W ≤ s.params.maxTransitions)
    (enough : ceil8 s.W ≤ line.length) (wfRef : seqWf s.W s.ref = true) (clean : s.accClean = true)
    (h : FeedFails (decide (s.rows + 1 = s.cfg.height)) o { s with line := line } (s.commandBytes line)) :
    (addLineBody line s).Fails o := by
  rw [commandBytes_eq] at h
  obtain fails | ⟨takes, rest⟩ := h.split
  · have extracted : extractLine { s with stateReg := .encoding, line := line } = .ok (s.extracted line) :=
      extractLine_enough (s := { s with stateReg := .encoding, line := line }) width enough
    obtain ⟨hW, href, hcur⟩ := extracted_buffers s line
    rw [addLineBody, extracted, andThen_ok]
    refine (encodeLine_fails ?_ ?_ ?_ ?_).andThen _
    · rwa [hW, href]
    · rw [hW, hcur]
      exact extractSeq_wf _ _
    · exact (setCur_room_accClean { s with stateReg := .encoding, line := line } _).2.trans clean
    · rw [extracted_lineBits, (extracted_newBytes s line).1]
      exact fails.congr (extracted_bare s line)
  · rw [addLineBody_of_room width enough wfRef clean ((room_iff_takes _ _).2 takes)]
    replace rest := rest.congr (lineDone_bare s line)
    split at rest
    · rename_i last
      refine finishRow_fails (by rwa [lineDone_cfg]) (lineDone_pending s line).2 ?_
      rwa [lineDone_cfg, lineDone_params, ← decide_eq_true last]
    · rename_i other
      exact absurd rest.nil.1 (by simpa using other)

theorem exec_addLine_fails {o : Out} {s : State} {line : List Byte}
    (accepting : s.stateReg = .initialized ∨ s.stateReg = .encoding) (width : s.W ≤ s.params.maxTransitions)
    (enough : ceil8 s.W ≤ line.length) (wfRef : seqWf s.W s.ref = true) (clean : s.accClean = true)
    (h : FeedFails (decide (s.rows + 1 = s.cfg.height)) o { s with line := line } (s.commandBytes line)) :
    exec (.addLine line) s = o := by
  rw [exec_addLine_accepted accepting, settleCommand_of_fails (addLineBody_fails width enough wfRef clean h)]

end Sys2Proof.Machine
end

section
/-! PROOFS. O12: an ADD_LINE that overflows the fixed buffer (43_bitpacker.md R203, 44_session_commands.md R232, R233,
60_exceptions.md R253). -/

namespace Sys2Proof.Machine

/-- With the buffer full WRITE_BYTE raises, and changes nothing (R203). -/
theorem writeByte_full {s : State} (sink : s.cfg.sink = .fixed) (full : s.count = s.cfg.cap) (v : Byte) :
    writeByte v s = .raised .dataOverflow s := by
  obtain ⟨-, e⟩ | ⟨stream, -⟩ := writeByte_cases v s
  · rw [e, writeByteFixed, if_pos full]
  · simp [sink] at stream

theorem toNat_add_ofNat {c : BitVec 32} {n : Nat} (fits : c.toNat + n < 4294967296) :
    (c + BitVec.ofNat 32 n).toNat = c.toNat + n := by
  rw [BitVec.toNat_add, BitVec.toNat_ofNat, Nat.add_mod_mod, Nat.mod_eq_of_lt fits]

/-- The first of the bytes that overflow the fixed buffer fill it. -/
theorem stored_take_full {s : State} {vs : List Byte} (fill : s.count.toNat ≤ s.cfg.cap.toNat)
    (tooMany : s.cfg.cap.toNat < s.count.toNat + vs.length) :
    (s.stored (vs.take (s.cfg.cap.toNat - s.count.toNat))).count = s.cfg.cap := by
  have := s.cfg.cap.isLt
  have len : (vs.take (s.cfg.cap.toNat - s.count.toNat)).length = s.cfg.cap.toNat - s.count.toNat :=
    List.length_take_of_le (by omega)
  refine BitVec.eq_of_toNat_eq ?_
  rw [stored_count, len, toNat_add_ofNat (by omega), Nat.add_sub_cancel' fill]

/-- Bytes that do not all fit overflow the fixed buffer after the first of them (R203, R253). -/
theorem feedFails_overflow {s : State} (flush : Bool) {vs : List Byte} (sink : s.cfg.sink = .fixed)
    (quiet : s.resetIn = none) (fill : s.count.toNat ≤ s.cfg.cap.toNat)
    (tooMany : s.cfg.cap.toNat < s.count.toNat + vs.length) :
    FeedFails flush (.next (takeError .dataOverflow (s.stored (vs.take (s.cfg.cap.toNat - s.count.toNat))))) s vs := by
  have takes : s.takes (vs.take (s.cfg.cap.toNat - s.count.toNat)) :=
    (takes_fixed sink _).2 ⟨quiet, by rw [List.length_take]; omega⟩
  obtain ⟨v, rest, left⟩ := List.exists_cons_of_length_pos
    (l := vs.drop (s.cfg.cap.toNat - s.count.toNat)) (by rw [List.length_drop]; omega)
  refine ⟨_, v :: rest, left ▸ (List.take_append_drop _ vs).symm, takes, fun t same => ?_⟩
  rw [wrote_fixed sink] at same
  obtain ⟨-, hcfg, hcount, -⟩ := port_of_bare same
  rw [stored_cfg] at hcfg
  have full : t.count = t.cfg.cap := by rw [hcount, hcfg, stored_take_full fill tooMany]
  rw [nextOutput, writeByte_full (hcfg ▸ sink) full, ← takeError_congr same]
  exact fails_raised .dataOverflow t

/-- Settles O12: the command fails where the buffer is full. -/
theorem addLineOverflowKeepsWholeBytes : Obligations.AddLineOverflowKeepsWholeBytes := by
  intro line s accepting width enough wfRef clean sink quiet fill tooMany
  have fails := feedFails_overflow (s := { s with line := line }) (decide (s.rows + 1 = s.cfg.height)) sink quiet fill
    tooMany
  exact ⟨_, exec_addLine_fails accepting width enough wfRef clean fails, takeError_failedFrom _ _,
    stored_take_full (s := { s with line := line }) fill tooMany, rfl, rfl, rfl⟩

end Sys2Proof.Machine
end

section
/-! PROOFS. O59: an ADD_LINE whose sink answers FAIL (43_bitpacker.md R205, R206, 44_session_commands.md R232,
60_exceptions.md R255). -/

namespace Sys2Proof.Machine

/-- A push that the sink answers with FAIL raises, and takes the answer (R205, R255). -/
theorem pushSegment_refused {s : State} {rs : List SinkReply} (sink : s.cfg.sink = .stream) (staged : s.stg ≠ [])
    (quiet : s.resetIn = none) (reply : s.sinkReplies = .fail :: rs) :
    pushSegment s = .raised .ioError { s with sinkReplies := rs } := by
  rw [pushSegment_eq_sinkPush sink staged quiet, sinkPush, nextReply_cons reply, takeReply, reply]

/-- A byte that completes a segment which the sink refuses (R204, R205). -/
theorem writeByte_refused {s : State} {rs : List SinkReply} (sink : s.cfg.sink = .stream)
    (full : s.stg.length + 1 = s.params.segSize) (quiet : s.resetIn = none) (reply : s.sinkReplies = .fail :: rs)
    (v : Byte) : writeByte v s = .raised .ioError { s with stg := s.stg ++ [v], sinkReplies := rs } := by
  obtain ⟨fixed, -⟩ | ⟨-, e⟩ := writeByte_cases v s
  · simp [sink] at fixed
  · obtain ⟨room, -⟩ | ⟨-, e'⟩ | ⟨overrun, -⟩ := writeByteStream_cases v s
    · omega
    · rw [e, e', pushSegment_refused (s := { s with stg := s.stg ++ [v] }) sink (by simp) quiet reply]
    · omega

/-- The bytes before the one that completes segment `k` complete the segments before it (R204). -/
theorem segmentsOf_before {n k : Nat} {stg vs : List Byte} (h : k < (segmentsOf n stg vs).1.length) :
    ∃ as v rest, vs = as ++ v :: rest ∧ (segmentsOf n stg as).1 = (segmentsOf n stg vs).1.take k
      ∧ (segmentsOf n stg as).2.length + 1 = n := by
  induction vs generalizing stg k with
  | nil => simp [segmentsOf] at h
  | cons v vs ih =>
    by_cases full : stg.length + 1 = n
    · rw [segmentsOf_cons_full full] at h ⊢
      cases k with
      | zero => exact ⟨[], v, vs, rfl, rfl, full⟩
      | succ k =>
        obtain ⟨as, u, rest, rfl, cut, last⟩ := ih (Nat.lt_of_succ_lt_succ h)
        refine ⟨v :: as, u, rest, rfl, ?_, ?_⟩
        · rw [segmentsOf_cons_full full, cut, List.take_succ_cons]
        · rwa [segmentsOf_cons_full full]
    · rw [segmentsOf_cons_staged full] at h ⊢
      obtain ⟨as, u, rest, rfl, cut, last⟩ := ih h
      exact ⟨v :: as, u, rest, rfl, by rw [segmentsOf_cons_staged full, cut], by rwa [segmentsOf_cons_staged full]⟩

/-- Bytes whose segments the sink answers with OK are taken, and its answers after those are left (R205). -/
theorem takes_of_replies {s : State} {vs : List Byte} {segs : List (List Byte)} {rs : List SinkReply}
    (sink : s.cfg.sink = .stream) (staged : s.stg.length < s.params.segSize) (quiet : s.resetIn = none)
    (cut : (segmentsOf s.params.segSize s.stg vs).1 = segs) (reply : s.sinkReplies = List.replicate segs.length .ok ++ rs)
    (fits : s.count.toNat + segs.flatten.length < 4294967296) :
    s.takes vs ∧ s.wrote vs = s.pushed segs (segmentsOf s.params.segSize s.stg vs).2
      ∧ (s.wrote vs).sinkReplies = rs := by
  have wrote : s.wrote vs = s.pushed segs (segmentsOf s.params.segSize s.stg vs).2 := by rw [wrote_stream sink, cut]
  refine ⟨(takes_stream sink vs).2 ⟨quiet, staged, ?_, cut ▸ fits⟩, wrote, ?_⟩
  · rw [cut, State.repliesOk, reply, List.take_left' List.length_replicate, beq_self_eq_true]
  · rw [wrote, pushed_sinkReplies, reply, List.drop_left' List.length_replicate]

/-- The answer of a command whose first segments have been delivered and whose next one the sink has refused (R255). -/
def State.ioErrorAfter (s : State) (segs : List (List Byte)) (rs : List SinkReply) : State :=
  takeError .ioError { s.pushed segs [] with sinkReplies := rs }

/-- What is staged when the refused push is made is lost (R259). -/
theorem fails_ioErrorAfter {s t : State} {segs : List (List Byte)} {stg : List Byte}
    (same : t.bare = (s.pushed segs stg).bare) (stg' : List Byte) (rs : List SinkReply) :
    (Res.raised .ioError { t with stg := stg', sinkReplies := rs }).Fails (.next (s.ioErrorAfter segs rs)) := by
  have lost : takeError .ioError { t with stg := stg', sinkReplies := rs } = s.ioErrorAfter segs rs :=
    show takeError .ioError { t.bare with stg := [], sinkReplies := rs } = _ by rw [same]; rfl
  exact lost ▸ fails_raised _ _

/-- The sink refuses a segment that one of the bytes completes (R204, R205). -/
theorem feedFails_refusedSegment {s : State} (flush : Bool) {vs : List Byte} {k : Nat} {rs : List SinkReply}
    (sink : s.cfg.sink = .stream) (staged : s.stg.length < s.params.segSize) (quiet : s.resetIn = none)
    (inside : k < (segmentsOf s.params.segSize s.stg vs).1.length)
    (reply : s.sinkReplies = List.replicate k .ok ++ .fail :: rs)
    (fits : s.count.toNat + ((segmentsOf s.params.segSize s.stg vs).1.take k).flatten.length < 4294967296) :
    FeedFails flush (.next (s.ioErrorAfter ((segmentsOf s.params.segSize s.stg vs).1.take k) rs)) s vs := by
  obtain ⟨as, v, rest, parts, cut, last⟩ := segmentsOf_before inside
  have count : ((segmentsOf s.params.segSize s.stg vs).1.take k).length = k := List.length_take_of_le inside.le
  obtain ⟨takes, wrote, left⟩ := takes_of_replies sink staged quiet cut (by rwa [count]) fits
  refine ⟨as, v :: rest, parts, takes, fun t same => ?_⟩
  obtain ⟨hparams, hcfg, -, hstg, hreplies, hreset⟩ := port_of_bare same
  rw [wrote] at same hparams hcfg hstg hreset
  rw [nextOutput, writeByte_refused (hcfg ▸ sink) (by rw [hstg, hparams]; exact last) (hreset.trans quiet)
    (hreplies.trans left)]
  exact fails_ioErrorAfter same _ rs

/-- The sink takes all the segments that the bytes complete, and refuses the one that FLUSH_PARTIAL pushes (R206). -/
theorem feedFails_refusedFlush {s : State} {vs : List Byte} {rs : List SinkReply} (sink : s.cfg.sink = .stream)
    (staged : s.stg.length < s.params.segSize) (quiet : s.resetIn = none)
    (some : (segmentsOf s.params.segSize s.stg vs).2 ≠ [])
    (reply : s.sinkReplies = List.replicate (segmentsOf s.params.segSize s.stg vs).1.length .ok ++ .fail :: rs)
    (fits : s.count.toNat + (segmentsOf s.params.segSize s.stg vs).1.flatten.length < 4294967296) :
    FeedFails true (.next (s.ioErrorAfter (segmentsOf s.params.segSize s.stg vs).1 rs)) s vs := by
  obtain ⟨takes, wrote, left⟩ := takes_of_replies sink staged quiet rfl reply fits
  refine ⟨vs, [], (List.append_nil vs).symm, takes, fun t same => ?_⟩
  obtain ⟨hparams, hcfg, -, hstg, hreplies, hreset⟩ := port_of_bare same
  rw [wrote] at same hparams hcfg hstg hreset
  have push : t.cfg.sink = .stream ∧ t.stg ≠ [] := ⟨hcfg ▸ sink, hstg ▸ some⟩
  rw [nextOutput, if_pos rfl, flushStaged, if_pos push,
    pushSegment_refused push.1 push.2 (hreset.trans quiet) (hreplies.trans left)]
  exact fails_ioErrorAfter same t.stg rs

/-- The sink refuses segment `k` of those that the command pushes, on the last row the one of FLUSH_PARTIAL with them
(R206). -/
theorem feedFails_commandSegments {s : State} {line : List Byte} {k : Nat} {rs : List SinkReply}
    (sink : s.cfg.sink = .stream) (staged : s.stg.length < s.params.segSize) (quiet : s.resetIn = none)
    (inside : k < (s.commandSegments line).length) (reply : s.sinkReplies = List.replicate k .ok ++ .fail :: rs)
    (fits : s.count.toNat + ((s.commandSegments line).take k).flatten.length < 4294967296) :
    FeedFails (decide (s.rows + 1 = s.cfg.height)) (.next (s.ioErrorAfter ((s.commandSegments line).take k) rs)) s
      (s.commandBytes line) := by
  obtain within | beyond := Nat.lt_or_ge k (segmentsOf s.params.segSize s.stg (s.commandBytes line)).1.length
  · have first : (s.commandSegments line).take k
        = (segmentsOf s.params.segSize s.stg (s.commandBytes line)).1.take k := by
      unfold State.commandSegments
      dsimp only
      split
      · exact List.take_append_of_le_length within.le
      · rfl
    rw [first] at fits ⊢
    exact feedFails_refusedSegment _ sink staged quiet within reply fits
  · by_cases push : s.rows + 1 = s.cfg.height ∧ (segmentsOf s.params.segSize s.stg (s.commandBytes line)).2 ≠ []
    · obtain ⟨last, some⟩ := push
      have all : s.commandSegments line = (segmentsOf s.params.segSize s.stg (s.commandBytes line)).1
          ++ [(segmentsOf s.params.segSize s.stg (s.commandBytes line)).2] := if_pos ⟨last, some⟩
      rw [all, List.length_append, List.length_singleton] at inside
      obtain rfl : k = (segmentsOf s.params.segSize s.stg (s.commandBytes line)).1.length := by omega
      rw [all, List.take_left' rfl] at fits ⊢
      rw [decide_eq_true last]
      exact feedFails_refusedFlush sink staged quiet some reply fits
    · have none : s.commandSegments line = (segmentsOf s.params.segSize s.stg (s.commandBytes line)).1 := if_neg push
      rw [none] at inside
      omega

/-- Settles O59: the command fails at the segment that the sink refuses. -/
theorem addLineSinkFailureKeepsSegments : Obligations.AddLineSinkFailureKeepsSegments := by
  intro line s k rs accepting width enough wfRef clean sink staged quiet inside reply fits
  have fails := feedFails_commandSegments (s := { s with line := line }) sink staged quiet inside reply fits
  refine ⟨_, exec_addLine_fails accepting width enough wfRef clean fails, takeError_failedFrom _ _, rfl, ?_, rfl, rfl⟩
  exact toNat_add_ofNat fits

end Sys2Proof.Machine
end

section
/-! PROOFS. O24, O25, O26, O28: PUSHBIT, WRITE_BYTE and a refused push as operations of their own (43_bitpacker.md R201 to
R205, 60_exceptions.md R253, R255). -/

namespace Sys2Proof.Machine

/-! ### PUSHBIT -/

theorem exec_pushbit (b : Bool) (s : State) : exec (.pushbit b) s = settle (pushBit b s) := rfl

theorem exec_writeByte (v : Byte) (s : State) : exec (.writeByte v) s = settle (writeByte v s) := rfl

/-- Bit `j` of a byte after PUSHBIT, counted from its least significant bit (R201). -/
theorem getLsbD_placeBit_lsb (order : BitOrder) (acc : BitVec 8) (nb : BitVec 3) (b : Bool) {j : Nat} (h : j < 8) :
    (placeBit order acc nb b).getLsbD j = (acc.getLsbD j || (b && decide (j = bitPos order nb.toNat))) := by
  have place := getLsbD_placeBit order acc nb b (bitPos_lt (order := order) h)
  have here : bitPos order j = nb.toNat ↔ j = bitPos order nb.toNat := by
    rw [← bitPos_inj (order := order) (bitPos_lt h) nb.isLt, bitPos_bitPos h]
  rwa [bitPos_bitPos h, decide_eq_decide.2 here] at place

/-- Settles O24, by whether the bit fills the byte. -/
theorem pushbitPlacesBit : Obligations.PushbitPlacesBit := by
  refine ⟨fun b s notLast => ?_, fun b s last => ?_⟩
  · obtain ⟨-, e⟩ | ⟨last, -⟩ := pushBit_cases b s
    · exact ⟨_, by rw [exec_pushbit, e, settle], fun j => getLsbD_placeBit_lsb _ _ _ _⟩
    · exact absurd last notLast
  · obtain ⟨notLast, -⟩ | ⟨-, e⟩ := pushBit_cases b s
    · exact absurd last notLast
    · refine ⟨_, by rw [exec_pushbit, e, exec_writeByte], fun j hj => ?_⟩
      rw [getLsbD_placeBit_lsb _ _ _ _ hj, last]
      rfl

/-! ### WRITE_BYTE -/

theorem writeByte_of_fixed {s : State} (sink : s.cfg.sink = .fixed) (v : Byte) : writeByte v s = writeByteFixed v s := by
  rw [writeByte, sink]

theorem writeByte_of_stream {s : State} (sink : s.cfg.sink = .stream) (v : Byte) :
    writeByte v s = writeByteStream v s := by
  rw [writeByte, sink]

/-- Below CFG.CAP the byte is stored, unless the reset line comes first (R203, R227). -/
theorem writeByteFixed_below {s : State} (below : s.count.toNat < s.cfg.cap.toNat) (v : Byte) :
    writeByteFixed v s = (outputTick s).andThen fun s =>
      .ok { s with out := memWrite s.out s.count.toNat v, count := s.count + 1 } := by
  obtain ⟨full, -⟩ | ⟨-, e⟩ | ⟨beyond, -⟩ := writeByteFixed_cases v s
  · exact absurd below (by rw [full]; exact Nat.lt_irrefl _)
  · exact e
  · omega

theorem writeByteFixed_beyond {s : State} (beyond : s.cfg.cap.toNat < s.count.toNat) (v : Byte) :
    writeByteFixed v s = .stop .outIndexBeyondCap := by
  obtain ⟨full, -⟩ | ⟨below, -⟩ | ⟨-, e⟩ := writeByteFixed_cases v s
  · exact absurd beyond (by rw [full]; exact Nat.lt_irrefl _)
  · omega
  · exact e

/-- Settles O25, by COUNT below, at or above CFG.CAP. -/
theorem writeByteStoresInFixedBuffer : Obligations.WriteByteStoresInFixedBuffer := by
  refine ⟨fun v s sink quiet below => ?_, fun v s sink full => ?_, fun v s sink beyond => ?_⟩
  · refine ⟨_, ?_, rfl, memRead_memWrite_same _ _ _, fun a => memRead_memWrite_other _ _⟩
    rw [exec_writeByte, writeByte_of_fixed sink, writeByteFixed_below below, outputTick_quiet quiet, andThen_ok, settle]
  · rw [exec_writeByte, writeByte_full sink full]
    exact ⟨_, rfl, takeError_failedFrom .dataOverflow s, rfl, rfl, rfl⟩
  · rw [exec_writeByte, writeByte_of_fixed sink, writeByteFixed_beyond beyond, settle]

/-- With room left in the segment after it the byte is staged (R204). -/
theorem writeByteStream_staged {s : State} (room : s.stg.length + 1 < s.params.segSize) (v : Byte) :
    writeByteStream v s = .ok { s with stg := s.stg ++ [v] } := by
  obtain ⟨-, e⟩ | ⟨full, -⟩ | ⟨overrun, -⟩ := writeByteStream_cases v s
  · exact e
  · omega
  · omega

/-- A byte that fills the segment has it pushed (R204, R205). -/
theorem writeByteStream_filled {s : State} (full : s.stg.length + 1 = s.params.segSize) (v : Byte) :
    writeByteStream v s = pushSegment { s with stg := s.stg ++ [v] } := by
  obtain ⟨room, -⟩ | ⟨-, e⟩ | ⟨overrun, -⟩ := writeByteStream_cases v s
  · omega
  · exact e
  · omega

theorem writeByteStream_overrun {s : State} (overrun : s.params.segSize ≤ s.stg.length) (v : Byte) :
    writeByteStream v s = .stop .stagingOverrun := by
  obtain ⟨room, -⟩ | ⟨full, -⟩ | ⟨-, e⟩ := writeByteStream_cases v s
  · omega
  · omega
  · exact e

/-- Settles O26, by the room that the staging segment has. -/
theorem writeByteStagesForStream : Obligations.WriteByteStagesForStream := by
  refine ⟨fun v s sink room => ?_, fun v s sink full => ?_, fun v s sink overrun => ?_⟩
  · rw [exec_writeByte, writeByte_of_stream sink, writeByteStream_staged room, settle]
  · rw [exec_writeByte, writeByte_of_stream sink, writeByteStream_filled full, exec_pushSegment]
  · rw [exec_writeByte, writeByte_of_stream sink, writeByteStream_overrun overrun, settle]

/-- Settles O28: the raise changes neither COUNT nor what was delivered. -/
theorem pushSegmentFailureIsIoError : Obligations.PushSegmentFailureIsIoError := by
  intro s rs sink staged quiet reply
  rw [exec_pushSegment, pushSegment_refused sink staged quiet reply]
  exact ⟨_, rfl, takeError_failedFrom .ioError _, rfl, rfl, rfl, rfl⟩

end Sys2Proof.Machine
end

section
/-! PROOFS. O32, O33, O11: an EMIT that overflows, FLUSH_PARTIAL, and the last line of an image (43_bitpacker.md R200, R203,
R206, R208, 44_session_commands.md R222). -/

namespace Sys2Proof.Machine

theorem exec_emit (cw : Bits) (s : State) : exec (.emit cw) s = settle (emitBits cw s) := rfl

/-- Settles O32: the emission fails where the buffer is full. -/
theorem emitOverflowIsByteExact : Obligations.EmitOverflowIsByteExact := by
  intro cw s clean sink quiet fill tooMany
  rw [← newBytes_length] at tooMany
  obtain ⟨-, answer⟩ := emitBits_fails clean (feedFails_overflow false sink quiet fill tooMany)
  exact ⟨_, answer, takeError_failedFrom _ _, stored_take_full fill tooMany, rfl, rfl⟩

/-! ### FLUSH_PARTIAL -/

theorem exec_flushPartial (s : State) : exec .flushPartial s = settle (flushPartial s) := rfl

/-- With nothing staged, or nothing to stage for, FLUSH_PARTIAL pushes nothing (R206). -/
theorem flushStaged_none {s : State} (h : s.cfg.sink = .fixed ∨ s.stg = []) : flushStaged s = .ok s := by
  refine if_neg fun ⟨sink, staged⟩ => ?_
  obtain fixed | none := h
  · simp [sink] at fixed
  · exact staged none

/-- What is staged is pushed as one segment to a sink that takes it (R205, R206). -/
theorem flushStaged_ok {s : State} {rs : List SinkReply} (sink : s.cfg.sink = .stream) (staged : s.stg ≠ [])
    (quiet : s.resetIn = none) (reply : s.sinkReplies = .ok :: rs)
    (fits : s.count.toNat + s.stg.length < 4294967296) : flushStaged s = .ok (s.pushed [s.stg] []) := by
  rw [flushStaged, if_pos ⟨sink, staged⟩, pushSegment_eq_sinkPush sink staged quiet, sinkPush_ok reply fits]

/-- A last byte goes to the sink in one segment with those staged before it, whether it fills the segment or not
(R204 to R206). -/
theorem writeByte_flushStaged {s : State} {v : Byte} {rs : List SinkReply} (sink : s.cfg.sink = .stream)
    (room : s.stg.length < s.params.segSize) (quiet : s.resetIn = none) (reply : s.sinkReplies = .ok :: rs)
    (fits : s.count.toNat + (s.stg ++ [v]).length < 4294967296) :
    (writeByte v s).andThen flushStaged = .ok (s.pushed [s.stg ++ [v]] []) := by
  rw [writeByte_of_stream sink]
  obtain full | more := Nat.eq_or_lt_of_le (Nat.succ_le_of_lt room)
  · rw [writeByteStream_filled full,
      pushSegment_eq_sinkPush (s := { s with stg := s.stg ++ [v] }) sink (by simp) quiet,
      sinkPush_ok (s := { s with stg := s.stg ++ [v] }) reply fits, andThen_ok, flushStaged_none (.inr rfl)]
    rfl
  · rw [writeByteStream_staged more, andThen_ok,
      flushStaged_ok (s := { s with stg := s.stg ++ [v] }) sink (by simp) quiet reply fits]
    rfl

/-- The state with ACC emptied where bits are pending (R206). -/
def State.drained (s : State) : State := if s.nb = 0 then s else s.withAcc 0 0

/-- With nothing pending FLUSH_PARTIAL is its push, else it first hands the padded byte to WRITE_BYTE (R206). -/
theorem flushPartial_cases (s : State) :
    (s.padBytes = [] ∧ s.drained = s ∧ flushPartial s = flushStaged s)
    ∨ (s.padBytes = [s.acc] ∧ s.drained = s.withAcc 0 0
        ∧ flushPartial s = (writeByte s.acc (s.withAcc 0 0)).andThen flushStaged) := by
  rw [State.padBytes, State.drained, flushPartial_eq]
  by_cases empty : s.nb = 0
  · simp only [if_pos empty]
    exact .inl ⟨trivial, trivial, rfl⟩
  · simp only [if_neg empty]
    exact .inr ⟨trivial, trivial, trivial⟩

theorem tailBytes_fixed {s : State} (sink : s.cfg.sink = .fixed) : s.tailBytes = s.padBytes := by
  simp [State.tailBytes, State.padBytes, sink]

theorem tailBytes_stream {s : State} (sink : s.cfg.sink = .stream) : s.tailBytes = s.stg ++ s.padBytes := by
  simp [State.tailBytes, State.padBytes, sink]

theorem flushed_fixed {s : State} (sink : s.cfg.sink = .fixed) : s.flushed = s.drained.stored s.padBytes := by
  rw [State.flushed, sink, tailBytes_fixed sink]
  rfl

theorem flushed_stream {s : State} (sink : s.cfg.sink = .stream) :
    s.flushed = if s.stg ++ s.padBytes = [] then s.drained else s.drained.pushed [s.stg ++ s.padBytes] [] := by
  rw [State.flushed, sink, tailBytes_stream sink]
  rfl

/-- FIXED: the padded byte is stored where bits are pending (R203, R206). -/
theorem flushPartial_fixed {s : State} (sink : s.cfg.sink = .fixed) (room : s.flushRoom = true) :
    flushPartial s = .ok s.flushed := by
  have takes : s.takes s.padBytes := by
    rw [takes_fixed sink, ← tailBytes_fixed sink]
    simpa [State.flushRoom, sink] using room
  rw [flushed_fixed sink]
  obtain ⟨noPad, drained, e⟩ | ⟨pad, drained, e⟩ := flushPartial_cases s
  · rw [e, drained, noPad, stored_nil, flushStaged_none (.inl sink)]
  · rw [pad] at takes ⊢
    rw [e, drained, (writesFirst_of_takes (s := s.withAcc 0 0) takes).write, wrote_fixed (s := s.withAcc 0 0) sink,
      andThen_ok]
    exact flushStaged_none (.inl sink)

/-- STREAM: the staged bytes and the padded byte are one segment (R206). -/
theorem flushPartial_stream {s : State} (sink : s.cfg.sink = .stream) (room : s.flushRoom = true) :
    flushPartial s = .ok s.flushed := by
  obtain ⟨quiet, staged, answered⟩ : s.resetIn = none ∧ s.stg.length < s.params.segSize
      ∧ (s.stg ++ s.padBytes ≠ [] →
        s.repliesOk 1 = true ∧ s.count.toNat + (s.stg ++ s.padBytes).length < 4294967296) := by
    simpa [State.flushRoom, sink, tailBytes_stream sink, or_iff_not_imp_left] using room
  rw [flushed_stream sink]
  obtain ⟨noPad, drained, e⟩ | ⟨pad, drained, e⟩ := flushPartial_cases s
  · rw [noPad, List.append_nil] at answered ⊢
    rw [e, drained]
    by_cases none : s.stg = []
    · rw [if_pos none, flushStaged_none (.inr none)]
    · obtain ⟨replies, fits⟩ := answered none
      obtain ⟨rs, reply, -⟩ := repliesOk_succ replies
      rw [if_neg none, flushStaged_ok sink none quiet reply fits]
  · have some : s.stg ++ [s.acc] ≠ [] := by simp
    rw [pad] at answered ⊢
    obtain ⟨replies, fits⟩ := answered some
    obtain ⟨rs, reply, -⟩ := repliesOk_succ replies
    rw [e, drained, if_neg some, writeByte_flushStaged (s := s.withAcc 0 0) sink staged quiet reply fits]
    rfl

/-- FLUSH_PARTIAL on an output that takes the end of the stream (R206). -/
theorem flushPartial_of_room {s : State} (room : s.flushRoom = true) : flushPartial s = .ok s.flushed := by
  cases sink : s.cfg.sink with
  | fixed => exact flushPartial_fixed sink room
  | stream => exact flushPartial_stream sink room

theorem drained_nb (s : State) : s.drained.nb = 0 := by
  rw [State.drained]
  split
  · assumption
  · rfl

theorem drained_stg (s : State) : s.drained.stg = s.stg := by
  rw [State.drained]
  split <;> rfl

/-- Nothing is pending after it, and with the STREAM sink nothing is staged (R206). -/
theorem flushed_empty (s : State) : s.flushed.nb = 0 ∧ (s.cfg.sink = .stream → s.flushed.stg = []) := by
  cases sink : s.cfg.sink with
  | fixed => exact ⟨by rw [flushed_fixed sink, stored_nb, drained_nb], by simp⟩
  | stream =>
    rw [flushed_stream sink]
    split
    · rename_i nothing
      exact ⟨drained_nb s, fun _ => (drained_stg s).trans (List.append_eq_nil_iff.1 nothing).1⟩
    · exact ⟨drained_nb s, fun _ => rfl⟩

/-- Settles O33, by the sink and by whether bits are pending. -/
theorem flushPartialEndsTheStream : Obligations.FlushPartialEndsTheStream := by
  intro s clean room
  obtain ⟨nb, stg⟩ := flushed_empty s
  exact ⟨by rw [exec_flushPartial, flushPartial_of_room room, settle], nb, stg, fun _ => (accClean_iff_acc s).1 clean⟩

/-! ### The last line -/

/-- On the last row an output that takes EOFB and the tail of the stream completes the image (R222). -/
theorem finishRow_last {s : State} (last : s.rows = s.cfg.height) (clean : s.accClean = true)
    (room : s.room (eofbBits s.params) = true) (tail : (s.emitted (eofbBits s.params)).flushRoom = true) :
    finishRow s = .ok s.imageDone := by
  rw [finishRow, if_pos last, emitEofb_eq_emitBits, (emitBits_of_room clean room).1, andThen_ok,
    flushPartial_of_room tail, andThen_ok, State.imageDone]

/-- Settles O11: the line is one emission, and the end of the image follows it. -/
theorem addLineCompletesImage : Obligations.AddLineCompletesImage := by
  intro line s accepting width enough wfRef clean room last eofb tail
  refine ⟨?_, rfl, (flushed_empty _).1⟩
  have rows : (s.lineDone line).rows = (s.lineDone line).cfg.height := by rwa [lineDone_cfg]
  rw [← lineDone_params s line] at eofb tail
  rw [exec_addLine_accepted accepting, addLineBody_of_room width enough wfRef clean room,
    finishRow_last rows (lineDone_pending s line).2 eofb tail]
  rfl

end Sys2Proof.Machine
end

section
/-! PROOFS. O13: an ADD_LINE that the reset line cuts (44_session_commands.md R227, 70_reset_and_hazards.md R281). A reset
before output operation `n + 1` cuts the command just where an output that takes `n` operations and no more would have it
raise; that run is the one of O12 and O59. -/

namespace Sys2Proof.Machine

/-! ### A reset in place of a failing output -/

theorem outputTick_due {s : State} (h : s.resetIn = some 0) : outputTick s = .cut s := by
  rw [outputTick, h]

theorem outputTick_counts {s : State} {n : Nat} (h : s.resetIn = some (n + 1)) :
    outputTick s = .ok { s with resetIn := some n } := by
  rw [outputTick, h]

/-- No reset is to come, and the output takes a bounded number of operations and then fails: the fixed buffer ends below
`cap`, or the sink's answers end with the first FAIL. -/
structure BoundedOutput (cap : BitVec 32) (s : State) : Prop where
  quiet : s.resetIn = none
  fixed : s.cfg.sink = .fixed → s.cfg.cap.toNat < cap.toNat
  stream : s.cfg.sink = .stream → ∃ n, s.sinkReplies = List.replicate n .ok ++ [.fail]

/-- How many operations such an output still takes. -/
def State.outputsLeft (s : State) : Nat :=
  match s.cfg.sink with
  | .fixed => s.cfg.cap.toNat - s.count.toNat
  | .stream => s.sinkReplies.length - 1

/-- The state with CFG.CAP `cap`, with the answers `rs` in place of the sink's last one, and with the reset line due where
the output would have failed. -/
def State.cutInstead (cap : BitVec 32) (rs : List SinkReply) (s : State) : State :=
  { s with
    cfg := { s.cfg with cap := cap }
    resetIn := some s.outputsLeft
    sinkReplies := s.sinkReplies.dropLast ++ rs }

theorem outputsLeft_fixed {s : State} (sink : s.cfg.sink = .fixed) :
    s.outputsLeft = s.cfg.cap.toNat - s.count.toNat := by
  rw [State.outputsLeft, sink]

theorem outputsLeft_stream {s : State} {n : Nat} (sink : s.cfg.sink = .stream)
    (replies : s.sinkReplies = List.replicate n .ok ++ [.fail]) : s.outputsLeft = n := by
  simp [State.outputsLeft, sink, replies]

theorem cutInstead_eq {s : State} {cap : BitVec 32} {rs replies : List SinkReply} {r : SinkReply} {n : Nat}
    (left : s.outputsLeft = n) (h : s.sinkReplies = replies ++ [r]) :
    s.cutInstead cap rs = { s with
      cfg := { s.cfg with cap := cap }, resetIn := some n, sinkReplies := replies ++ rs } := by
  rw [State.cutInstead, left, h, List.dropLast_concat]

/-- Of two courses the second is the first with the reset line in place of the failing output. A raise that is not the
output's is left out, and so are the stops. -/
def Res.CutInstead (cap : BitVec 32) (rs : List SinkReply) : Res → Res → Prop
  | .ok t, r => BoundedOutput cap t ∧ r = .ok (t.cutInstead cap rs)
  | .raised e t, r => e ≠ .invalidParameter → r = .cut (t.cutInstead cap rs)
  | .cut _, _ => True
  | .stop _, _ => True
  | .refuse _, _ => True

/-- Where the output would fail in the operation, the reset line cuts it. -/
def CutsInstead (cap : BitVec 32) (rs : List SinkReply) (op : State → Res) : Prop :=
  ∀ s, BoundedOutput cap s → (op s).CutInstead cap rs (op (s.cutInstead cap rs))

section
variable {cap : BitVec 32} {rs : List SinkReply}

theorem CutsInstead.andThen {op k : State → Res} (hop : CutsInstead cap rs op) (hk : CutsInstead cap rs k) :
    CutsInstead cap rs fun s => (op s).andThen k := fun s hs => by
  have first := hop s hs
  dsimp only
  cases h : op s with
  | ok t =>
    rw [h] at first
    obtain ⟨ht, e⟩ := first
    rw [e]
    exact hk t ht
  | raised e t =>
    rw [h] at first
    exact fun notParameter => by rw [first notParameter, andThen_cut]
  | _ => trivial

theorem CutsInstead.ite {p : State → Prop} [DecidablePred p] {yes no : State → Res}
    (test : ∀ s, p (s.cutInstead cap rs) ↔ p s) (hyes : CutsInstead cap rs yes) (hno : CutsInstead cap rs no) :
    CutsInstead cap rs fun s => if p s then yes s else no s := fun s hs => by
  by_cases h : p s
  · simp only [test, h, if_true]
    exact hyes s hs
  · simp only [test, h, if_false]
    exact hno s hs

theorem cutsInstead_ok : CutsInstead cap rs Res.ok := fun _ hs => ⟨hs, rfl⟩

/-- Registers that the output port does not read are written in both runs. -/
theorem BoundedOutput.congr {s t : State} (hs : BoundedOutput cap s) (cfg : t.cfg = s.cfg) (quiet : t.resetIn = s.resetIn)
    (replies : t.sinkReplies = s.sinkReplies) : BoundedOutput cap t where
  quiet := quiet ▸ hs.quiet
  fixed := cfg ▸ hs.fixed
  stream := cfg ▸ replies ▸ hs.stream

/-! ### The output port -/

/-- FIXED: the buffer is full, or takes one byte more (R203). -/
theorem writeByteFixed_cutInstead {s : State} (hs : BoundedOutput cap s) (sink : s.cfg.sink = .fixed) (v : Byte) :
    (writeByteFixed v s).CutInstead cap rs (writeByteFixed v (s.cutInstead cap rs)) := by
  have bound := hs.fixed sink
  have left := outputsLeft_fixed sink
  obtain ⟨full, e⟩ | ⟨below, e⟩ | ⟨-, e⟩ := writeByteFixed_cases v s <;> rw [e]
  · have full : s.count.toNat = s.cfg.cap.toNat := congrArg _ full
    have due : (s.cutInstead cap rs).resetIn = some 0 := congrArg some (by omega)
    intro _
    rw [writeByteFixed_below (s := s.cutInstead cap rs) (full ▸ bound), outputTick_due due, andThen_cut]
  · have counted : (s.count + 1).toNat = s.count.toNat + 1 :=
      BitVec.toNat_add_of_lt (by have := s.cfg.cap.isLt; simp; omega)
    have counts : (s.cutInstead cap rs).resetIn = some (s.cfg.cap.toNat - (s.count.toNat + 1) + 1) :=
      congrArg some (by omega)
    rw [outputTick_quiet hs.quiet, andThen_ok,
      writeByteFixed_below (s := s.cutInstead cap rs) (below.trans bound), outputTick_counts counts, andThen_ok]
    refine ⟨hs.congr rfl rfl rfl, ?_⟩
    simp only [State.cutInstead, State.outputsLeft, sink, counted]
  · trivial

/-- STREAM: the sink is at its last answer, or takes one segment more (R205). -/
theorem pushSegment_cutsInstead : CutsInstead cap rs pushSegment := fun s hs => by
  obtain ⟨sink, staged, -⟩ | ⟨-, e⟩ := pushSegment_cases s
  · obtain ⟨n, replies⟩ := hs.stream sink
    have left := outputsLeft_stream sink replies
    have armed := cutInstead_eq (cap := cap) (rs := rs) left replies
    have pushes : pushSegment (s.cutInstead cap rs) = (outputTick (s.cutInstead cap rs)).andThen sinkPush :=
      if_pos ⟨sink, staged⟩
    cases n with
    | zero =>
      rw [pushSegment_refused (rs := []) sink staged hs.quiet replies, pushes, outputTick_due (congrArg some left), armed]
      intro _
      simp [State.cutInstead, State.outputsLeft, sink]
    | succ n =>
      rw [pushSegment_eq_sinkPush sink staged hs.quiet, pushes, outputTick_counts (congrArg some left), andThen_ok]
      by_cases fits : s.count.toNat + s.stg.length < 4294967296
      · have next : (s.cutInstead cap rs).sinkReplies = .ok :: (List.replicate n .ok ++ rs) := by rw [armed]; rfl
        have rest : (s.pushed [s.stg] []).sinkReplies = List.replicate n .ok ++ [.fail] :=
          congrArg (List.drop 1) replies
        rw [sinkPush_ok (s := s) replies fits,
          sinkPush_ok (s := { s.cutInstead cap rs with resetIn := some n }) next fits]
        refine ⟨⟨hs.quiet, hs.fixed, fun _ => ⟨n, rest⟩⟩, ?_⟩
        rw [cutInstead_eq (outputsLeft_stream (s := s.pushed [s.stg] []) sink rest) rest, armed]
        rfl
      · rw [sinkPush_beyond32Bits (nextReply_cons replies) (Nat.not_lt.1 fits)]
        trivial
  · rw [e]
    trivial

theorem writeByteStream_cutsInstead (v : Byte) : CutsInstead cap rs (writeByteStream v) :=
  .ite (fun _ => .rfl)
    (.ite (fun _ => .rfl) (fun s hs => pushSegment_cutsInstead { s with stg := s.stg ++ [v] } (hs.congr rfl rfl rfl))
      fun _ hs => ⟨hs.congr rfl rfl rfl, rfl⟩)
    fun _ _ => trivial

theorem writeByte_cutsInstead (v : Byte) : CutsInstead cap rs (writeByte v) := fun s hs => by
  cases sink : s.cfg.sink with
  | fixed =>
    rw [writeByte_of_fixed sink, writeByte_of_fixed (s := s.cutInstead cap rs) sink]
    exact writeByteFixed_cutInstead hs sink v
  | stream =>
    rw [writeByte_of_stream sink, writeByte_of_stream (s := s.cutInstead cap rs) sink]
    exact writeByteStream_cutsInstead v s hs

/-! ### The packer -/

/-- WRITE_BYTE of a byte that ACC held, with ACC emptied first (R201, R206). -/
theorem writeByte_emptied_cutsInstead (v : State → Byte) (hv : ∀ s, v (s.cutInstead cap rs) = v s) :
    CutsInstead cap rs fun s => writeByte (v s) { s with acc := 0, nb := 0 } := fun s hs => by
  simp only [hv]
  exact writeByte_cutsInstead (v s) { s with acc := 0, nb := 0 } (hs.congr rfl rfl rfl)

theorem pushBit_cutsInstead (b : Bool) : CutsInstead cap rs (pushBit b) :=
  .ite (fun _ => .rfl)
    (writeByte_emptied_cutsInstead (fun s => placeBit s.cfg.bitOrder s.acc s.nb b) fun _ => rfl)
    fun _ hs => ⟨hs.congr rfl rfl rfl, rfl⟩

theorem emitBits_cutsInstead (bs : Bits) : CutsInstead cap rs (emitBits bs) := by
  induction bs with
  | nil => exact cutsInstead_ok
  | cons b bs ih => exact (pushBit_cutsInstead b).andThen ih

theorem emitRun_cutsInstead (n : Int) (c : Colour) : CutsInstead cap rs (emitRun n c) := fun s hs => by
  by_cases h : n < 0
  · rw [emitRun_of_neg h]
    exact fun notParameter => absurd rfl notParameter
  · rw [emitRun_of_nonneg (by omega), emitRun_of_nonneg (by omega)]
    exact emitBits_cutsInstead _ s hs

theorem flushPartial_cutsInstead : CutsInstead cap rs flushPartial :=
  .andThen (.ite (fun _ => .rfl) cutsInstead_ok (writeByte_emptied_cutsInstead State.acc fun _ => rfl))
    (.ite (fun _ => .rfl) pushSegment_cutsInstead cutsInstead_ok)

theorem emitEofb_cutsInstead : CutsInstead cap rs emitEofb :=
  .ite (fun _ => .rfl) ((emitBits_cutsInstead _).andThen (emitBits_cutsInstead _)) cutsInstead_ok

/-! ### Lines -/

theorem passStep_cutsInstead : CutsInstead cap rs passStep := fun s =>
  (emitBits_cutsInstead Mode.pass.bits).andThen (k := fun t => .ok { t with a0 := (s.b2 : Int) })
    (fun _ ht => ⟨ht.congr rfl rfl rfl, rfl⟩) s

theorem verticalStep_cutsInstead (m : Mode) : CutsInstead cap rs (verticalStep m) := fun s =>
  (emitBits_cutsInstead m.bits).andThen (k := fun t => .ok { t with a0 := (s.a1 : Int), colour := opp s.colour })
    (fun _ ht => ⟨ht.congr rfl rfl rfl, rfl⟩) s

theorem horizontalStep_cutsInstead : CutsInstead cap rs horizontalStep := fun s =>
  (emitBits_cutsInstead Mode.horizontal.bits).andThen
    ((emitRun_cutsInstead (firstRun s.a0 s.a1) s.colour).andThen
      ((emitRun_cutsInstead (secondRun s.a1 s.a2) (opp s.colour)).andThen
        (k := fun t => .ok { t with a0 := (s.a2 : Int) }) fun _ ht => ⟨ht.congr rfl rfl rfl, rfl⟩)) s

theorem modeStep_cutsInstead (m : Mode) : CutsInstead cap rs (modeStep m) := by
  cases m with
  | pass => exact passStep_cutsInstead
  | horizontal => exact horizontalStep_cutsInstead
  | _ => exact verticalStep_cutsInstead _

theorem codingStep_cutsInstead : CutsInstead cap rs codingStep := fun s hs => by
  rw [codingStep_eq_modeStep, codingStep_eq_modeStep]
  exact modeStep_cutsInstead (selectMode s.a1 s.b1 s.b2) s hs

theorem encodeLoop_cutsInstead (fuel : Nat) : CutsInstead cap rs (encodeLoop fuel) := by
  induction fuel with
  | zero => exact .ite (fun _ => .rfl) (fun _ _ => trivial) cutsInstead_ok
  | succ fuel ih => exact .ite (fun _ => .rfl) (codingStep_cutsInstead.andThen ih) cutsInstead_ok

theorem encodeLine_cutsInstead : CutsInstead cap rs encodeLine := fun s hs =>
  encodeLoop_cutsInstead (s.W + 1) { s with a0 := -1, colour := .white } (hs.congr rfl rfl rfl)

theorem extractLine_cutsInstead : CutsInstead cap rs extractLine :=
  .ite (fun _ => .rfl) (fun _ _ notParameter => absurd rfl notParameter) <|
    .ite (fun _ => .rfl) (fun _ _ => trivial) fun s hs => by
      refine ⟨hs.congr (by simp) (by simp) (by simp), congrArg Res.ok ?_⟩
      unfold State.setCur
      change (if s.refsel = true then _ else _) = _
      split <;> rfl

theorem finishRow_cutsInstead : CutsInstead cap rs finishRow :=
  .ite (fun _ => .rfl)
    (emitEofb_cutsInstead.andThen <| flushPartial_cutsInstead.andThen fun _ hs => ⟨hs.congr rfl rfl rfl, rfl⟩)
    cutsInstead_ok

/-- ADD_LINE is cut where its output would fail (R222, R227). -/
theorem addLineBody_cutsInstead (line : List Byte) : CutsInstead cap rs (addLineBody line) := fun s hs =>
  extractLine_cutsInstead.andThen
    (encodeLine_cutsInstead.andThen fun u hu =>
      finishRow_cutsInstead { swapBuffers u with rows := u.rows + 1 } (hu.congr rfl rfl rfl))
    { s with stateReg := .encoding, line := line } (hs.congr rfl rfl rfl)

/-- Where ADD_LINE would raise in a state like `x` because the output fails, the reset line ends it with what `x` has
written and delivered (R227, R281). -/
theorem exec_addLine_cut {s x : State} {line : List Byte} {e : ErrKind}
    (hs : BoundedOutput cap s) (accepting : s.stateReg = .initialized ∨ s.stateReg = .encoding)
    (notParameter : e ≠ .invalidParameter) (fails : (addLineBody line s).Fails (.next (takeError e x))) :
    ∃ t, exec (.addLine line) (s.cutInstead cap rs) = .next t ∧ resetFrom x t ∧ t.out = x.out
      ∧ t.delivered = x.delivered ∧ t.sinkReplies = x.sinkReplies.dropLast ++ rs := by
  have course := addLineBody_cutsInstead (rs := rs) line s hs
  obtain ended | ⟨e', u, raised, same⟩ | ⟨u, -, same⟩ := settle_next_iff.1 fails.2
  · exact absurd ended (fails.1 _)
  · have field {α : Type} (f : State → α) : f (takeError e' u) = f (takeError e x) := by rw [same]
    obtain rfl : e' = e := field State.rc
    rw [raised] at course
    refine ⟨hardReset (u.cutInstead cap rs), ?_, ?_, field State.out, field State.delivered, ?_⟩
    · rw [exec_addLine_accepted (s := s.cutInstead cap rs) accepting, course notParameter]
      rfl
    · exact ⟨rfl, rfl, rfl, field State.params, field State.line, field State.codes,
        field State.host, rfl, field State.deliveredAtInit⟩
    · exact congrArg (List.dropLast · ++ rs) (field State.sinkReplies)
  · have : SessionState.failed = .uninit := congrArg State.stateReg same
    cases this

end

/-- The state with no reset to come, and with another CFG.CAP and other answers of the sink. -/
def State.bounded (s : State) (cap : BitVec 32) (replies : List SinkReply) : State :=
  { s with cfg := { s.cfg with cap := cap }, resetIn := none, sinkReplies := replies }

theorem cutInstead_bounded {s : State} {n : Nat} {cap : BitVec 32} {replies rs : List SinkReply} {r : SinkReply}
    (due : s.resetIn = some n) (left : (s.bounded cap (replies ++ [r])).outputsLeft = n)
    (rest : s.sinkReplies = replies ++ rs) : (s.bounded cap (replies ++ [r])).cutInstead s.cfg.cap rs = s := by
  rw [cutInstead_eq left rfl, ← due, ← rest]
  rfl

/-- An ADD_LINE that overflows the fixed buffer raises there (R203, R222). -/
theorem addLineBody_overflow {line : List Byte} {s : State} (width : s.W ≤ s.params.maxTransitions)
    (enough : ceil8 s.W ≤ line.length) (wfRef : seqWf s.W s.ref = true) (clean : s.accClean = true)
    (sink : s.cfg.sink = .fixed) (quiet : s.resetIn = none) (fill : s.count.toNat ≤ s.cfg.cap.toNat)
    (tooMany : s.cfg.cap.toNat < s.count.toNat + (s.commandBytes line).length) :
    (addLineBody line s).Fails (.next (takeError .dataOverflow
      ((s.withLine line).stored ((s.commandBytes line).take (s.cfg.cap.toNat - s.count.toNat))))) :=
  addLineBody_fails width enough wfRef clean
    (feedFails_overflow (s := s.withLine line) (decide (s.rows + 1 = s.cfg.height)) sink quiet fill tooMany)

/-- An ADD_LINE whose sink refuses segment `k` raises there (R205, R222). -/
theorem addLineBody_refused {line : List Byte} {s : State} {k : Nat} {rs : List SinkReply}
    (width : s.W ≤ s.params.maxTransitions) (enough : ceil8 s.W ≤ line.length) (wfRef : seqWf s.W s.ref = true)
    (clean : s.accClean = true) (sink : s.cfg.sink = .stream) (staged : s.stg.length < s.params.segSize)
    (quiet : s.resetIn = none) (inside : k < (s.commandSegments line).length)
    (reply : s.sinkReplies = List.replicate k .ok ++ .fail :: rs)
    (fits : s.count.toNat + ((s.commandSegments line).take k).flatten.length < 4294967296) :
    (addLineBody line s).Fails (.next (takeError .ioError
      { (s.withLine line).pushed ((s.commandSegments line).take k) [] with sinkReplies := rs })) :=
  addLineBody_fails width enough wfRef clean
    (feedFails_commandSegments (s := s.withLine line) sink staged quiet inside reply fits)

/-- FIXED: the bytes before the reset are those that would fill a buffer of their size (R203, R227). -/
theorem addLine_cut_fixed {line : List Byte} {s : State} {n : Nat}
    (accepting : s.stateReg = .initialized ∨ s.stateReg = .encoding) (width : s.W ≤ s.params.maxTransitions)
    (enough : ceil8 s.W ≤ line.length) (wfRef : seqWf s.W s.ref = true) (clean : s.accClean = true)
    (sink : s.cfg.sink = .fixed) (due : s.resetIn = some n) (inside : n < (s.commandBytes line).length)
    (room : s.count.toNat + n < s.cfg.cap.toNat) :
    ∃ t, exec (.addLine line) s = .next t ∧ resetFrom { s with line := line } t
      ∧ t.out = writeBytes s.out s.count.toNat ((s.commandBytes line).take n) ∧ t.delivered = s.delivered
      ∧ t.sinkReplies = s.sinkReplies := by
  obtain ⟨cap, bound⟩ : ∃ cap : BitVec 32, cap.toNat = s.count.toNat + n := by
    have := s.cfg.cap.isLt
    exact ⟨.ofNat 32 (s.count.toNat + n), Nat.mod_eq_of_lt (by omega)⟩
  have size : cap.toNat - s.count.toNat = n := by omega
  have left : (s.bounded cap (s.sinkReplies ++ [.fail])).outputsLeft = n :=
    (outputsLeft_fixed (s := s.bounded cap _) sink).trans size
  have ends : BoundedOutput s.cfg.cap (s.bounded cap (s.sinkReplies ++ [.fail])) :=
    ⟨rfl, fun _ => bound ▸ room, fun stream => by simp [State.bounded, sink] at stream⟩
  have overflow := addLineBody_overflow (s := s.bounded cap (s.sinkReplies ++ [.fail])) width enough wfRef clean sink rfl
    (show s.count.toNat ≤ cap.toNat by omega)
    (show cap.toNat < s.count.toNat + (s.commandBytes line).length by omega)
  obtain ⟨t, e, reset, out, delivered, replies⟩ :=
    exec_addLine_cut (e := .dataOverflow) (rs := []) ends accepting (by decide) overflow
  rw [cutInstead_bounded due left (List.append_nil _).symm] at e
  refine ⟨t, e, reset, out.trans ?_, delivered, replies.trans ?_⟩
  · exact congrArg (fun k => writeBytes s.out s.count.toNat ((s.commandBytes line).take k)) size
  · exact (congrArg (· ++ []) List.dropLast_concat).trans (List.append_nil _)

/-- STREAM: the segments before the reset are those that a sink would take before it refuses one (R205, R227). -/
theorem addLine_cut_stream {line : List Byte} {s : State} {n : Nat} {rs : List SinkReply}
    (accepting : s.stateReg = .initialized ∨ s.stateReg = .encoding) (width : s.W ≤ s.params.maxTransitions)
    (enough : ceil8 s.W ≤ line.length) (wfRef : seqWf s.W s.ref = true) (clean : s.accClean = true)
    (sink : s.cfg.sink = .stream) (staged : s.stg.length < s.params.segSize) (due : s.resetIn = some n)
    (inside : n < (s.commandSegments line).length) (reply : s.sinkReplies = List.replicate n .ok ++ rs)
    (fits : s.count.toNat + ((s.commandSegments line).take n).flatten.length < 4294967296) :
    ∃ t, exec (.addLine line) s = .next t ∧ resetFrom { s with line := line } t
      ∧ t.delivered = s.delivered ++ (s.commandSegments line).take n ∧ t.sinkReplies = rs ∧ t.out = s.out := by
  have ends : BoundedOutput s.cfg.cap (s.bounded s.cfg.cap (List.replicate n .ok ++ [.fail])) :=
    ⟨rfl, fun fixed => by simp [State.bounded, sink] at fixed, fun _ => ⟨n, rfl⟩⟩
  have refused := addLineBody_refused (s := s.bounded s.cfg.cap (List.replicate n .ok ++ [.fail])) (rs := []) width enough
    wfRef clean sink staged rfl inside rfl fits
  obtain ⟨t, e, reset, out, delivered, replies⟩ :=
    exec_addLine_cut (e := .ioError) (rs := rs) ends accepting (by decide) refused
  rw [cutInstead_bounded due (outputsLeft_stream sink rfl) reply] at e
  exact ⟨t, e, reset, delivered, replies, out⟩

/-- Settles O13: a cut command goes as far as one whose output fails there. -/
theorem addLineCutByResetLine : Obligations.AddLineCutByResetLine :=
  ⟨fun _ _ _ => addLine_cut_fixed, fun _ _ _ _ => addLine_cut_stream⟩

end Sys2Proof.Machine
end

section
/-! PROOFS. O3, O4, O16: the two GET commands and SWAP (44_session_commands.md R224 to R226). -/

namespace Sys2Proof.Machine

theorem exec_getOutputSize (s : State) : exec .getOutputSize s = .next (s.answer .success s.count) := rfl

/-- Settles O3; in UNINIT the session invariant fixes COUNT. -/
theorem getOutputSizeReturnsCount : Obligations.GetOutputSizeReturnsCount := by
  refine ⟨exec_getOutputSize, fun s inv uninit => ?_, rfl⟩
  have zero : s.count = 0 := inv.uninitCount uninit
  exact (exec_getOutputSize s).trans (congrArg (fun n => Host.Outcome.next (s.answer .success n)) zero)

theorem exec_getError (s : State) :
    exec .getError s = .next (s.answer .success ((errCode s.err).setWidth 32)) := rfl

/-- Settles O4; outside FAILED the session invariant fixes ERR. -/
theorem getErrorReturnsErr : Obligations.GetErrorReturnsErr := by
  refine ⟨exec_getError, fun s inv alive => ?_, rfl⟩
  have noError : (errCode s.err).setWidth 32 = 0#32 := by rw [inv.errNone alive]; rfl
  exact (exec_getError s).trans (congrArg (fun n => Host.Outcome.next (s.answer .success n)) noError)

theorem exec_swap (s : State) : exec .swap s = .next (swapBuffers s) := rfl

theorem swapBuffers_cur (s : State) : (swapBuffers s).cur = s.ref := by
  cases h : s.refsel <;> simp [swapBuffers, State.ref, State.cur, h]

/-- Settles O16: only REFSEL is written, and the roles are read off it. -/
theorem swapExchangesRoles : Obligations.SwapExchangesRoles := by
  refine fun s => ⟨exec_swap s, fun t h => ?_⟩
  cases (exec_swap s).symm.trans h
  exact ⟨swapBuffers_ref s, swapBuffers_cur s⟩

end Sys2Proof.Machine
end

section
/-! PROOFS. O58: how STATE moves under host operations (44_session_commands.md R222, R231, 60_exceptions.md R253, R255,
R258). -/

namespace Sys2Proof.Machine

/-! ### How a part of a line goes on -/

/-- The kinds that an operation can raise with a sink: INVALID_PARAMETER (R135, R157), and what its output raises (R253,
R255). -/
def RaisedWith (sink : SinkKind) (e : ErrKind) : Prop :=
  e = .invalidParameter ∨ (e = .dataOverflow ∧ sink = .fixed) ∨ (e = .ioError ∧ sink = .stream)

/-- An operation that ends in a state with `Q`, if it comes to its end, and that raises only what it can raise with the
sink. -/
def Res.EndsWith (sink : SinkKind) (Q : State → Prop) : Res → Prop
  | .ok t => Q t
  | .raised e _ => RaisedWith sink e
  | .cut _ => True
  | .stop _ => True
  | .refuse _ => True

theorem Res.EndsWith.andThen {sink : SinkKind} {P Q : State → Prop} {r : Res} {k : State → Res} (h : r.EndsWith sink P)
    (hk : ∀ u, P u → (k u).EndsWith sink Q) : (r.andThen k).EndsWith sink Q := by
  cases r with
  | ok u => exact hk u h
  | raised e u => exact h
  | _ => trivial

/-- The registers that decide where ADD_LINE goes are as they were (R222). -/
structure RowKept (s t : State) : Prop where
  cfg : t.cfg = s.cfg
  stateReg : t.stateReg = s.stateReg
  rows : t.rows = s.rows

theorem RowKept.refl (s : State) : RowKept s s := ⟨rfl, rfl, rfl⟩

/-- The operation keeps those registers, whatever else has been written since `s`. -/
def KeepsRow (op : State → Res) : Prop := ∀ s u, RowKept s u → (op u).EndsWith s.cfg.sink (RowKept s)

theorem KeepsRow.andThen {op k : State → Res} (hop : KeepsRow op) (hk : KeepsRow k) :
    KeepsRow fun s => (op s).andThen k :=
  fun s u h => (hop s u h).andThen (hk s)

theorem KeepsRow.ite {p : State → Prop} [DecidablePred p] {yes no : State → Res} (hyes : KeepsRow yes)
    (hno : KeepsRow no) : KeepsRow fun s => if p s then yes s else no s := fun s u h => by
  dsimp only
  split
  · exact hyes s u h
  · exact hno s u h

theorem keepsRow_ok : KeepsRow Res.ok := fun _ _ h => h

/-! ### The output port and the packer -/

theorem outputTick_keepsRow : KeepsRow outputTick := fun s u h => by
  obtain ⟨-, e⟩ | ⟨-, e⟩ | ⟨n, -, e⟩ := outputTick_cases u <;> rw [e]
  · exact h
  · trivial
  · exact ⟨h.cfg, h.stateReg, h.rows⟩

theorem sinkPush_endsWith {s u : State} (h : RowKept s u) (sink : s.cfg.sink = .stream) :
    (sinkPush u).EndsWith s.cfg.sink (RowKept s) := by
  obtain ⟨-, -, e⟩ | ⟨-, -, e⟩ | ⟨-, e⟩ | ⟨-, e⟩ := sinkPush_cases u <;> rw [e]
  · exact ⟨by simpa using h.cfg, by simpa using h.stateReg, by simpa using h.rows⟩
  · trivial
  · exact .inr (.inr ⟨rfl, sink⟩)
  · trivial

theorem pushSegment_keepsRow : KeepsRow pushSegment := fun s u h => by
  obtain ⟨sink, -, e⟩ | ⟨-, e⟩ := pushSegment_cases u <;> rw [e]
  · exact (outputTick_keepsRow s u h).andThen fun _ hv => sinkPush_endsWith hv (h.cfg ▸ sink)
  · trivial

theorem writeByte_keepsRow (v : Byte) : KeepsRow (writeByte v) := fun s u h => by
  obtain ⟨sink, e⟩ | ⟨-, e⟩ := writeByte_cases v u <;> rw [e]
  · obtain ⟨-, e⟩ | ⟨-, e⟩ | ⟨-, e⟩ := writeByteFixed_cases v u <;> rw [e]
    · exact .inr (.inl ⟨rfl, h.cfg ▸ sink⟩)
    · exact (outputTick_keepsRow s u h).andThen fun _ hv => ⟨hv.cfg, hv.stateReg, hv.rows⟩
    · trivial
  · obtain ⟨-, e⟩ | ⟨-, e⟩ | ⟨-, e⟩ := writeByteStream_cases v u <;> rw [e]
    · exact ⟨h.cfg, h.stateReg, h.rows⟩
    · exact pushSegment_keepsRow s _ ⟨h.cfg, h.stateReg, h.rows⟩
    · trivial

/-- WRITE_BYTE of a byte that ACC held, with ACC emptied first (R201, R206). -/
theorem writeByte_emptied_keepsRow (v : State → Byte) :
    KeepsRow fun s => writeByte (v s) { s with acc := 0, nb := 0 } :=
  fun s u h => writeByte_keepsRow (v u) s { u with acc := 0, nb := 0 } ⟨h.cfg, h.stateReg, h.rows⟩

theorem pushBit_keepsRow (b : Bool) : KeepsRow (pushBit b) :=
  .ite (writeByte_emptied_keepsRow fun s => placeBit s.cfg.bitOrder s.acc s.nb b)
    fun _ _ h => ⟨h.cfg, h.stateReg, h.rows⟩

theorem emitBits_keepsRow (bs : Bits) : KeepsRow (emitBits bs) := by
  induction bs with
  | nil => exact keepsRow_ok
  | cons b bs ih => exact (pushBit_keepsRow b).andThen ih

theorem emitRun_keepsRow (n : Int) (c : Colour) : KeepsRow (emitRun n c) := fun s u h => by
  by_cases neg : n < 0
  · rw [emitRun_of_neg neg]
    exact .inl rfl
  · rw [emitRun_of_nonneg (by omega)]
    exact emitBits_keepsRow _ s u h

theorem flushPartial_keepsRow : KeepsRow flushPartial :=
  .andThen (.ite keepsRow_ok (writeByte_emptied_keepsRow State.acc)) (.ite pushSegment_keepsRow keepsRow_ok)

theorem emitEofb_keepsRow : KeepsRow emitEofb :=
  .ite ((emitBits_keepsRow _).andThen (emitBits_keepsRow _)) keepsRow_ok

/-! ### Lines -/

/-- A0 and COLOR are none of those registers. -/
theorem RowKept.withPos {s u : State} (h : RowKept s u) (a0 : Int) (c : Colour) : RowKept s (u.withPos a0 c) :=
  ⟨h.cfg, h.stateReg, h.rows⟩

theorem modeStep_keepsRow (m : Mode) : KeepsRow (modeStep m) := fun s u h => by
  cases m with
  | pass => exact (emitBits_keepsRow _ s u h).andThen fun v hv => hv.withPos _ v.colour
  | horizontal =>
    exact (emitBits_keepsRow _ s u h).andThen fun v hv => (emitRun_keepsRow _ _ s v hv).andThen fun v hv =>
      (emitRun_keepsRow _ _ s v hv).andThen fun v hv => hv.withPos _ v.colour
  | _ => exact (emitBits_keepsRow _ s u h).andThen fun _ hv => hv.withPos _ _

theorem codingStep_keepsRow : KeepsRow codingStep := fun s u h => by
  rw [codingStep_eq_modeStep]
  exact modeStep_keepsRow _ s u h

theorem encodeLoop_keepsRow (fuel : Nat) : KeepsRow (encodeLoop fuel) := by
  induction fuel with
  | zero => exact .ite (fun _ _ _ => trivial) keepsRow_ok
  | succ fuel ih => exact .ite (codingStep_keepsRow.andThen ih) keepsRow_ok

theorem encodeLine_keepsRow : KeepsRow encodeLine :=
  fun s u h => encodeLoop_keepsRow (u.W + 1) s (u.withPos (-1) .white) (h.withPos _ _)

theorem extractLine_keepsRow : KeepsRow extractLine := fun s u h => by
  obtain ⟨-, e⟩ | ⟨-, -, e⟩ | ⟨-, -, e⟩ := extractLine_cases u <;> rw [e]
  · exact .inl rfl
  · trivial
  · exact ⟨by simpa using h.cfg, by simpa using h.stateReg, by simpa using h.rows⟩

/-! ### ADD_LINE -/

/-- STATE after an accepted line that comes to its end (R222). -/
def State.afterRow (s : State) : SessionState := if s.rows + 1 = s.cfg.height then .complete else .encoding

/-- The end of a row that has been counted (R222). -/
theorem finishRow_endsWith {s u : State} (cfg : u.cfg = s.cfg) (encoding : u.stateReg = .encoding)
    (counted : u.rows = s.rows + 1) : (finishRow u).EndsWith s.cfg.sink fun t => t.stateReg = s.afterRow := by
  rw [State.afterRow, ← counted, ← cfg]
  unfold finishRow
  split
  · exact (emitEofb_keepsRow u u (.refl u)).andThen fun v hv => (flushPartial_keepsRow u v hv).andThen fun _ _ => rfl
  · exact encoding

theorem addLineBody_endsWith (line : List Byte) (s : State) :
    (addLineBody line s).EndsWith s.cfg.sink fun t => t.stateReg = s.afterRow :=
  (extractLine_keepsRow { s with stateReg := .encoding, line := line } _ (.refl _)).andThen fun u hu =>
    (encodeLine_keepsRow _ u hu).andThen fun v hv =>
      finishRow_endsWith (u := { swapBuffers v with rows := v.rows + 1 }) hv.cfg hv.stateReg (congrArg (· + 1) hv.rows)

/-- An accepted ADD_LINE that answers a next state has raised, has come to its end, or was cut by a reset line that was to
be asserted (R222, R227, R258). -/
theorem exec_addLine_accepted_cases {line : List Byte} {s t : State}
    (accepting : s.stateReg = .initialized ∨ s.stateReg = .encoding) (h : exec (.addLine line) s = .next t) :
    (∃ e u, RaisedWith s.cfg.sink e ∧ t = takeError e u)
    ∨ (t.rc = .success ∧ t.stateReg = s.afterRow)
    ∨ (s.resetIn ≠ none ∧ ∃ u, t = hardReset u) := by
  have ends := addLineBody_endsWith line s
  have moves := addLineBody_movesFrom line s
  rw [exec_addLine_accepted accepting] at h
  cases body : addLineBody line s with
  | ok u =>
    rw [body] at h ends
    cases h
    exact .inr (.inl ⟨rfl, ends⟩)
  | raised e u =>
    rw [body] at h ends
    cases h
    exact .inl ⟨e, u, ends, rfl⟩
  | cut u =>
    rw [body] at h moves
    cases h
    obtain ⟨moves, due⟩ := moves
    exact .inr (.inr ⟨fun quiet => by simp [Moves.resetIn_none moves quiet] at due, u, rfl⟩)
  | stop _ | refuse _ =>
    rw [body] at h
    cases h

/-- A line that the session does not accept changes the result only (R251, R254, R256). -/
theorem exec_addLine_unaccepted {line : List Byte} {s t : State}
    (not : ¬ (s.stateReg = .initialized ∨ s.stateReg = .encoding)) (h : exec (.addLine line) s = .next t) :
    ∃ rc, t = s.answer rc 0 := by
  change execAddLine line s = .next t at h
  unfold execAddLine at h
  split at h
  case h_1 | h_2 | h_3 =>
    cases h
    exact ⟨_, rfl⟩
  case h_4 initialized => exact absurd (.inl initialized) not
  case h_5 encoding => exact absurd (.inr encoding) not

theorem RaisedWith.ne_success {sink : SinkKind} {e : ErrKind} (h : RaisedWith sink e) : e ≠ .success := by
  obtain rfl | ⟨rfl, -⟩ | ⟨rfl, -⟩ := h <;> decide

/-! ### The table of R231 -/

theorem stateMove_addLine_accepted {line : List Byte} {s t : State}
    (accepting : s.stateReg = .initialized ∨ s.stateReg = .encoding) :
    stateMove (.addLine line) s t ↔ (t.stateReg = .failed ∧ t.rc ≠ .success ∧ t.err = t.rc)
      ∨ (t.rc = .success ∧ t.stateReg = s.afterRow) :=
  iff_of_eq (if_pos accepting)

theorem addLine_moves_state {line : List Byte} {s t : State} (h : exec (.addLine line) s = .next t) :
    stateMove (.addLine line) s t ∨ (s.resetIn ≠ none ∧ t.stateReg = .uninit ∧ t.err = .success ∧ t.count = 0) := by
  by_cases accepting : s.stateReg = .initialized ∨ s.stateReg = .encoding
  · rw [stateMove_addLine_accepted accepting]
    obtain ⟨e, u, kind, rfl⟩ | done | ⟨due, u, rfl⟩ := exec_addLine_accepted_cases accepting h
    · exact .inl (.inl ⟨rfl, kind.ne_success, rfl⟩)
    · exact .inl (.inr done)
    · exact .inr ⟨due, rfl, rfl, rfl⟩
  · obtain ⟨rc, rfl⟩ := exec_addLine_unaccepted accepting h
    exact .inl ((if_neg accepting).mpr rfl)

/-- Every host operation moves STATE as the table lists, but for a reset that comes inside an ADD_LINE (R227, R231). -/
theorem hostOp_moves_state {i : Instr} {s t : State} (hi : isHostOp i = true) (h : exec i s = .next t) :
    stateMove i s t ∨ (s.resetIn ≠ none ∧ t.stateReg = .uninit ∧ t.err = .success ∧ t.count = 0) := by
  cases i with
  | init width height bitOrder sink cap =>
    obtain ⟨legal, e⟩ | ⟨illegal, e⟩ := exec_init_cases width height bitOrder sink cap s <;> cases h.symm.trans e
    · exact .inl (by simp [stateMove, legal])
    · exact .inl (by simp [stateMove, illegal])
  | addLine line => exact addLine_moves_state h
  | getOutputSize | getError | reset =>
    cases h
    exact .inl rfl
  | _ => cases hi

/-- In a session INVALID_PARAMETER is not raised, and FAILED is entered by what the sink in use raises (R253, R255). -/
theorem session_addLine_moves_state {line : List Byte} {s t : State} (inv : SessionInv s)
    (accepting : s.stateReg = .initialized ∨ s.stateReg = .encoding) (quiet : s.resetIn = none)
    (h : exec (.addLine line) s = .next t) :
    (t.stateReg = .failed ∧ (t.rc = .dataOverflow ∧ s.cfg.sink = .fixed ∨ t.rc = .ioError ∧ s.cfg.sink = .stream))
    ∨ (t.rc = .success ∧ t.stateReg = s.afterRow) := by
  obtain ⟨e, u, kind, rfl⟩ | done | ⟨due, -⟩ := exec_addLine_accepted_cases accepting h
  · have cause : e = .dataOverflow ∨ e = .ioError := (exec_addLine_sessionInv inv h).errCause rfl
    obtain rfl | kind := kind
    · simp at cause
    · exact .inl ⟨rfl, kind⟩
  · exact .inr done
  · exact absurd quiet due

theorem afterRow_ne_failed (s : State) : s.afterRow ≠ .failed := by
  unfold State.afterRow
  split <;> decide

/-- Settles O58: every host operation by its cases, and under the session invariant the raise by its sink. -/
theorem hostOperationsMoveStateAsListed : Obligations.HostOperationsMoveStateAsListed := by
  refine ⟨fun i s t => hostOp_moves_state, fun line s t inv accepting quiet h => ?_⟩
  obtain ⟨failed, ⟨rc, sink⟩ | ⟨rc, sink⟩⟩ | ⟨rc, state⟩ := session_addLine_moves_state inv accepting quiet h
  · simp [failed, rc, sink]
  · simp [failed, rc, sink]
  · have alive := afterRow_ne_failed s
    rw [← state] at alive
    exact ⟨by simp [rc, alive], fun _ => ⟨rc, state⟩, by simp [rc], by simp [rc]⟩

end Sys2Proof.Machine
end

section
/-! PROOFS. The lines of an image, one ADD_LINE after another, on an output that takes them (44_session_commands.md R222,
R233). -/

namespace Sys2Proof.Machine

/-! ### The output port -/

/-- The state as the output port knows it: the registers that it neither reads nor writes, LINE and the result with them, are
set to fixed values. -/
def State.port (s : State) : State := (s.bare.withLine []).answer .success 0

theorem port_takes (s : State) : s.port.takes = s.takes := rfl

theorem port_of_bare_eq {s t : State} (h : s.bare = t.bare) : s.port = t.port :=
  congrArg (fun u => (u.withLine []).answer .success 0) h

theorem port_wrote (s : State) (vs : List Byte) : (s.wrote vs).port = s.port.wrote vs := by
  cases h : s.cfg.sink
  · rw [wrote_fixed h, wrote_fixed (s := s.port) h]
    rfl
  · rw [wrote_stream h, wrote_stream (s := s.port) h]
    rfl

theorem port_emitted (s : State) (bs : Bits) : (s.emitted bs).port = s.port.wrote (s.newBytes bs) :=
  (port_of_bare_eq (bare_emitted s bs)).trans (port_wrote s _)

theorem port_lineDone (s : State) (line : List Byte) :
    (s.lineDone line).port = s.port.wrote (s.newBytes (s.bitsOf line)) :=
  (port_of_bare_eq (lineDone_bare s line)).trans (port_wrote { s with line := line } _)

/-- Bytes that the output takes bring no reset nearer. -/
theorem wrote_quiet {s : State} {vs : List Byte} (takes : s.takes vs) : (s.wrote vs).resetIn = none := by
  obtain ⟨after, -⟩ := takes_right (as := vs) (bs := []) (by rwa [List.append_nil])
  exact after.1

/-! ### The bytes of the lines to come -/

/-- What the lines to come hand to WRITE_BYTE, with what is pending before them, EOFB and the padding after them (R233). -/
def State.imageBytes (s : State) (lines : List (List Byte)) : List Byte :=
  pack s.cfg.bitOrder (s.streamWith (rowsBits s.cfg.bitOrder s.W s.ref lines ++ eofbBits s.params))

/-- The session accepts these lines, and with them its image is complete. -/
structure RowsToCome (lines : List (List Byte)) (s : State) : Prop where
  accepting : s.stateReg = .initialized ∨ s.stateReg = .encoding
  width : s.W ≤ s.params.maxTransitions
  enough : ∀ line ∈ lines, ceil8 s.W ≤ line.length
  reference : seqWf s.W s.ref = true
  clean : s.accClean = true
  rows : s.rows.toNat + lines.length = s.cfg.height.toNat

theorem RowsToCome.counted {line : List Byte} {rest : List (List Byte)} {s : State} (h : RowsToCome (line :: rest) s) :
    (s.rows + 1).toNat = s.rows.toNat + 1 := by
  have rows := h.rows
  have := s.cfg.height.isLt
  rw [List.length_cons] at rows
  exact BitVec.toNat_add_of_lt (by simp; omega)

theorem RowsToCome.last_iff {line : List Byte} {rest : List (List Byte)} {s : State} (h : RowsToCome (line :: rest) s) :
    s.rows + 1 = s.cfg.height ↔ rest = [] := by
  have rows := h.rows
  rw [List.length_cons] at rows
  rw [← BitVec.toNat_inj, h.counted, ← List.length_eq_zero_iff]
  omega

theorem lineDone_ref (s : State) (line : List Byte) :
    (s.lineDone line).ref = lineSeq s.cfg.bitOrder s.W line := by
  obtain ⟨-, -, cur⟩ := extracted_buffers s line
  have coded : (s.extracted line).lineCoded.cur = (s.extracted line).cur := by simp [State.lineCoded, State.cur]
  exact (swapBuffers_ref _).trans (coded.trans cur)

/-- On the last row the command hands over all that is left of the image. -/
theorem commandBytes_last {s : State} {line : List Byte} (last : s.rows + 1 = s.cfg.height) :
    s.commandBytes line = s.imageBytes [line] := by
  simp only [State.commandBytes, if_pos last, State.imageBytes, State.bitsOf, rowsBits, List.append_nil]

theorem commandBytes_other {s : State} {line : List Byte} (other : s.rows + 1 ≠ s.cfg.height) :
    s.commandBytes line = s.newBytes (s.bitsOf line) := if_neg other

/-- On another row the lines after it hand over the rest. -/
theorem imageBytes_cons {s : State} {line : List Byte} {rest : List (List Byte)}
    (other : s.rows + 1 ≠ s.cfg.height) :
    s.imageBytes (line :: rest) = s.commandBytes line ++ (s.lineDone line).imageBytes rest := by
  obtain ⟨pending, -⟩ := lineDone_pending s line
  have bits : rowsBits s.cfg.bitOrder s.W s.ref (line :: rest)
      = s.bitsOf line ++ rowsBits s.cfg.bitOrder s.W (lineSeq s.cfg.bitOrder s.W line) rest := rfl
  have width : (s.lineDone line).W = s.W := by rw [State.W, lineDone_cfg, State.W]
  rw [State.imageBytes, bits, List.append_assoc, pack_streamWith_append, commandBytes_other other, State.imageBytes,
    lineDone_cfg, lineDone_params, lineDone_ref, width, State.streamWith, pending]

/-! ### A line before the last one -/

/-- ADD_LINE of a line before the last one has handed its bytes to an output that takes them: the session is ready for the
lines after it. -/
structure LineTaken (line : List Byte) (rest : List (List Byte)) (s t : State) : Prop where
  run : exec (.addLine line) s = .next t
  toCome : RowsToCome rest t
  rc : t.rc = .success
  bytes : s.imageBytes (line :: rest) = s.commandBytes line ++ t.imageBytes rest
  port : t.port = s.port.wrote (s.commandBytes line)

theorem addLine_taken {line : List Byte} {rest : List (List Byte)} {s : State} (h : RowsToCome (line :: rest) s)
    (more : rest ≠ []) (takes : s.takes (s.commandBytes line)) : ∃ t, LineTaken line rest s t := by
  obtain ⟨thisEnough, restEnough⟩ := List.forall_mem_cons.1 h.enough
  have other : s.rows + 1 ≠ s.cfg.height := fun last => more (h.last_iff.1 last)
  have bytes := imageBytes_cons (line := line) (rest := rest) other
  have own := commandBytes_other (line := line) other
  have width : (s.lineDone line).W = s.W := by rw [State.W, lineDone_cfg, State.W]
  refine ⟨(s.lineDone line).answer .success 0, ?_, ?_, rfl, bytes, ?_⟩
  · rw [own] at takes
    exact addLineEncodesScanline line s h.accepting h.width thisEnough h.reference h.clean
      ((room_iff_takes s _).2 takes) other
  · have rows := h.rows
    rw [List.length_cons] at rows
    have counted : (s.lineDone line).rows.toNat = s.rows.toNat + 1 := h.counted
    refine ⟨.inr ?_, ?_, ?_, ?_, (lineDone_pending s line).2, ?_⟩
    · simp [State.lineDone, State.lineCoded, State.extracted]
    · change (s.lineDone line).W ≤ (s.lineDone line).params.maxTransitions
      rw [width, lineDone_params]
      exact h.width
    · change ∀ l ∈ rest, ceil8 (s.lineDone line).W ≤ l.length
      rwa [width]
    · change seqWf (s.lineDone line).W (s.lineDone line).ref = true
      rw [width, lineDone_ref]
      exact extractSeq_wf _ _
    · change (s.lineDone line).rows.toNat + rest.length = (s.lineDone line).cfg.height.toNat
      rw [counted, lineDone_cfg]
      omega
  · rw [own]
    exact port_lineDone s line

/-! ### Lists of commands -/

theorem execAll_cons {i : Instr} {is : List Instr} {s t : State} (h : exec i s = .next t) :
    execAll (i :: is) s = execAll is t := by
  rw [execAll, h]

theorem execAll_append {is js : List Instr} {s t : State} (h : execAll is s = .next t) :
    execAll (is ++ js) s = execAll js t := by
  induction is generalizing s with
  | nil =>
    cases h
    rfl
  | cons i is ih =>
    rw [execAll] at h
    cases first : exec i s with
    | next u =>
      rw [first] at h
      rw [List.cons_append, execAll_cons first, ih h]
    | fault _ | refused _ =>
      rw [first] at h
      cases h

/-- The lines `as` have been handed to an output that takes them and the lines `bs` after them. -/
structure LinesTaken (as bs : List (List Byte)) (s t : State) : Prop where
  run : execAll (as.map Instr.addLine) s = .next t
  toCome : RowsToCome bs t
  rc : s.rc = .success → t.rc = .success
  takes : t.takes (t.imageBytes bs)
  wrote : t.port.wrote (t.imageBytes bs) = s.port.wrote (s.imageBytes (as ++ bs))

/-- The lines before the last one, by induction on them. -/
theorem addLines_taken {as bs : List (List Byte)} {s : State} (h : RowsToCome (as ++ bs) s) (more : bs ≠ [])
    (takes : s.takes (s.imageBytes (as ++ bs))) : ∃ t, LinesTaken as bs s t := by
  induction as generalizing s with
  | nil => exact ⟨s, rfl, h, id, takes, rfl⟩
  | cons line as ih =>
    have some : as ++ bs ≠ [] := by simp [more]
    have other : s.rows + 1 ≠ s.cfg.height := fun last => some (h.last_iff.1 last)
    rw [List.cons_append] at takes h
    rw [imageBytes_cons other] at takes
    obtain ⟨u, taken⟩ := addLine_taken h some (takes_left takes)
    have whole := takes
    rw [← imageBytes_cons other, taken.bytes, ← port_takes] at whole
    obtain ⟨rest, both⟩ := takes_right whole
    rw [← taken.port] at rest both
    obtain ⟨t, done⟩ := ih taken.toCome rest
    refine ⟨t, ?_, done.toCome, fun _ => done.rc taken.rc, done.takes, ?_⟩
    · rw [List.map_cons, execAll_cons taken.run, done.run]
    · rw [done.wrote, both, ← taken.bytes, List.cons_append]

/-! ### The last line -/

/-- The state after what is staged has been pushed as one segment (R206). -/
def State.stagePushed (s : State) : State :=
  if s.cfg.sink = .stream ∧ s.stg ≠ [] then s.pushed [s.stg] [] else s

/-- The sink takes what is staged, as one segment (R205). -/
def State.takesStaged (s : State) : Prop :=
  s.cfg.sink = .stream → s.stg ≠ [] → s.repliesOk 1 = true ∧ s.count.toNat + s.stg.length < 4294967296

theorem flushStaged_of_takes {s : State} (quiet : s.resetIn = none) (staged : s.takesStaged) :
    flushStaged s = .ok s.stagePushed := by
  by_cases push : s.cfg.sink = .stream ∧ s.stg ≠ []
  · obtain ⟨sink, some⟩ := push
    obtain ⟨replies, fits⟩ := staged sink some
    obtain ⟨rs, reply, -⟩ := repliesOk_succ replies
    rw [flushStaged_ok sink some quiet reply fits, State.stagePushed, if_pos ⟨sink, some⟩]
  · rw [flushStaged, State.stagePushed, if_neg push, if_neg push]

theorem port_stagePushed (s : State) : s.stagePushed.port = s.port.stagePushed := by
  by_cases push : s.cfg.sink = .stream ∧ s.stg ≠ []
  · have pushPort : s.port.cfg.sink = .stream ∧ s.port.stg ≠ [] := push
    rw [State.stagePushed, State.stagePushed, if_pos push, if_pos pushPort]
    rfl
  · have pushPort : ¬ (s.port.cfg.sink = .stream ∧ s.port.stg ≠ []) := push
    rw [State.stagePushed, State.stagePushed, if_neg push, if_neg pushPort]

/-- FLUSH_PARTIAL hands over the padded byte, and pushes what is staged then (R206). -/
theorem flushPartial_of_takes {s : State} (takes : s.takes s.padBytes)
    (staged : (s.port.wrote s.padBytes).takesStaged) :
    ∃ t, flushPartial s = .ok t ∧ t.port = (s.port.wrote s.padBytes).stagePushed := by
  rw [← port_wrote] at staged ⊢
  obtain ⟨noPad, -, e⟩ | ⟨pad, -, e⟩ := flushPartial_cases s
  · rw [noPad, wrote_nil] at staged ⊢
    exact ⟨_, e.trans (flushStaged_of_takes takes.1 staged), port_stagePushed s⟩
  · have quiet := wrote_quiet takes
    rw [pad] at takes staged quiet ⊢
    have write := (writesFirst_of_takes (s := s.withAcc 0 0) takes).write
    rw [withAcc_wrote] at write
    refine ⟨((s.wrote [s.acc]).withAcc 0 0).stagePushed, ?_, port_stagePushed _⟩
    rw [e, write, andThen_ok, flushStaged_of_takes (s := (s.wrote [s.acc]).withAcc 0 0) quiet staged]

/-- The end of the image: EOFB and FLUSH_PARTIAL hand over what is left of the stream (R206 to R208, R222). -/
theorem finishRow_of_takes {s : State} {vs : List Byte} (last : s.rows = s.cfg.height) (clean : s.accClean = true)
    (bytes : pack s.cfg.bitOrder (s.streamWith (eofbBits s.params)) = vs) (takes : s.takes vs)
    (staged : (s.port.wrote vs).takesStaged) :
    ∃ t, finishRow s = .ok t ∧ t.stateReg = .complete ∧ t.port = (s.port.wrote vs).stagePushed := by
  rw [← bytes, pack_streamWith] at takes staged ⊢
  obtain ⟨pad, both⟩ := takes_right (s := s.port) takes
  rw [← port_emitted] at pad both
  rw [← both] at staged ⊢
  obtain ⟨t, flush, port⟩ := flushPartial_of_takes (s := s.emitted (eofbBits s.params)) pad staged
  refine ⟨{ t with stateReg := .complete }, ?_, rfl, port⟩
  rw [finishRow, if_pos last, emitEofb_eq_emitBits,
    (emitBits_of_room clean ((room_iff_takes _ _).2 (takes_left takes))).1, andThen_ok, flush, andThen_ok]

/-- The last line of an image completes it (R222). -/
theorem addLine_completes {line : List Byte} {s : State} (h : RowsToCome [line] s)
    (takes : s.takes (s.imageBytes [line])) (staged : (s.port.wrote (s.imageBytes [line])).takesStaged) :
    ∃ t, exec (.addLine line) s = .next t ∧ t.stateReg = .complete ∧ t.rc = .success
      ∧ t.port = (s.port.wrote (s.imageBytes [line])).stagePushed := by
  have last : s.rows + 1 = s.cfg.height := h.last_iff.2 rfl
  rw [← commandBytes_last last, commandBytes_eq, if_pos last] at takes staged ⊢
  obtain ⟨rest, both⟩ := takes_right (s := s.port) takes
  rw [← port_lineDone] at rest both
  rw [← both] at staged ⊢
  have lastRow : (s.lineDone line).rows = (s.lineDone line).cfg.height := by rwa [lineDone_cfg]
  obtain ⟨t, finish, complete, port⟩ :=
    finishRow_of_takes lastRow (lineDone_pending s line).2 (by rw [lineDone_cfg, lineDone_params]) rest staged
  refine ⟨t.answer .success 0, ?_, complete, rfl, port⟩
  rw [exec_addLine_accepted h.accepting, addLineBody_of_room h.width (h.enough line (List.mem_singleton_self _))
    h.reference h.clean ((room_iff_takes _ _).2 (takes_left takes)), finish]
  rfl

/-- The lines of an image on an output that takes all its bytes (R233). -/
theorem addLines_complete {lines : List (List Byte)} {s : State} (h : RowsToCome lines s) (some : lines ≠ [])
    (takes : s.takes (s.imageBytes lines)) (staged : (s.port.wrote (s.imageBytes lines)).takesStaged) :
    ∃ t, execAll (lines.map Instr.addLine) s = .next t ∧ t.stateReg = .complete ∧ t.rc = .success
      ∧ t.port = (s.port.wrote (s.imageBytes lines)).stagePushed := by
  obtain rfl | ⟨before, last, rfl⟩ := lines.eq_nil_or_concat'
  · exact absurd rfl some
  · obtain ⟨u, taken⟩ := addLines_taken h (by simp) takes
    rw [← taken.wrote] at staged ⊢
    obtain ⟨t, run, complete, rc, port⟩ := addLine_completes taken.toCome taken.takes staged
    refine ⟨t, ?_, complete, rc, port⟩
    rw [List.map_append, execAll_append taken.run, List.map_singleton, execAll_cons run, execAll]

/-! ### INIT -/

/-- The session that INIT starts with CFG `c`, as the next command finds it (R221). -/
def State.started (s : State) (c : CfgRegs) : State := (startSession c s).answer .success 0

theorem execAll_imageCommands {s : State} {width : BitVec 16} {height : BitVec 32} {bitOrder sink : BitVec 8}
    (legal : initLegal s.params width height bitOrder sink = true) (cap : BitVec 32) (lines : List (List Byte)) :
    execAll (imageCommands width height bitOrder sink cap lines) s
      = execAll (lines.map Instr.addLine) (s.started (initCfg width height bitOrder sink cap)) := by
  obtain ⟨-, e⟩ | ⟨illegal, -⟩ := exec_init_cases width height bitOrder sink cap s
  · exact execAll_cons e
  · simp [legal] at illegal

/-- A session begins with all its lines to come (R221). -/
theorem started_toCome {s : State} {width : BitVec 16} {height : BitVec 32} {bitOrder sink : BitVec 8} {cap : BitVec 32}
    {lines : List (List Byte)} (legal : initLegal s.params width height bitOrder sink = true)
    (count : lines.length = height.toNat) (size : ∀ l ∈ lines, l.length = ceil8 width.toNat) :
    RowsToCome lines (s.started (initCfg width height bitOrder sink cap)) where
  accepting := .inl rfl
  width := (initLegal_iff.1 legal).2.1
  enough l hl := (size l hl).ge
  reference := by simp [State.started, State.ref, State.W, seqWf, rising]
  clean := accClean_of_empty rfl
  rows := (Nat.zero_add _).trans count

/-- With nothing pending and an all-white reference the bytes to come are those of the image (R233). -/
theorem started_imageBytes (s : State) (width : BitVec 16) (height : BitVec 32) (bitOrder sink : BitVec 8)
    (cap : BitVec 32) (lines : List (List Byte)) :
    (s.started (initCfg width height bitOrder sink cap)).imageBytes lines
      = g4 s.params (bitOrderOf bitOrder) width.toNat lines := by
  have pending : (s.started (initCfg width height bitOrder sink cap)).pending = [] := pending_of_empty rfl
  rw [State.imageBytes, State.streamWith, pending]
  rfl

/-- A legal image has a line. -/
theorem lines_ne_nil {p : Params} {width : BitVec 16} {height : BitVec 32} {bitOrder sink : BitVec 8}
    {lines : List (List Byte)} (legal : initLegal p width height bitOrder sink = true)
    (count : lines.length = height.toNat) : lines ≠ [] := by
  obtain ⟨-, -, heightPos, -⟩ := initLegal_iff.1 legal
  rintro rfl
  rw [List.length_nil] at count
  omega

end Sys2Proof.Machine
end

section
/-! PROOFS. O45, O47: an image into the fixed buffer, with room for G4 or without (44_session_commands.md R233,
60_exceptions.md R253). -/

namespace Sys2Proof.Machine

/-- Bytes written from index 0 on are what OUT holds there (R62). -/
theorem outPrefix_writeBytes (m : Memory) (vs : List Byte) : outPrefix (writeBytes m 0 vs) vs.length = vs.map some := by
  refine List.ext_getElem (by simp [outPrefix]) fun k _ hk => ?_
  rw [List.length_map] at hk
  have read := memRead_writeBytes_inside m vs 0 k hk
  rw [Nat.zero_add, List.getElem?_eq_getElem hk] at read
  simpa [outPrefix] using read

/-! ### With room -/

theorem takesStaged_of_fixed {s : State} (sink : s.cfg.sink = .fixed) : s.takesStaged := fun stream => by
  simp [sink] at stream

theorem stagePushed_of_fixed {s : State} (sink : s.cfg.sink = .fixed) : s.stagePushed = s :=
  if_neg fun push => by simp [sink] at push

/-- FIXED: the lines of an image whose bytes fit store them at COUNT (R203, R233). -/
theorem addLines_store {lines : List (List Byte)} {s : State} (h : RowsToCome lines s) (some : lines ≠ [])
    (sink : s.cfg.sink = .fixed) (quiet : s.resetIn = none)
    (fits : s.count.toNat + (s.imageBytes lines).length ≤ s.cfg.cap.toNat) :
    ∃ t, execAll (lines.map Instr.addLine) s = .next t ∧ t.stateReg = .complete ∧ t.rc = .success
      ∧ t.count = s.count + BitVec.ofNat 32 (s.imageBytes lines).length
      ∧ t.out = writeBytes s.out s.count.toNat (s.imageBytes lines) := by
  have wrote : s.port.wrote (s.imageBytes lines) = s.port.stored (s.imageBytes lines) :=
    wrote_fixed (s := s.port) sink _
  have staged := takesStaged_of_fixed (s := s.port.stored (s.imageBytes lines)) sink
  rw [← wrote] at staged
  obtain ⟨t, run, complete, rc, port⟩ := addLines_complete h some ((takes_fixed sink _).2 ⟨quiet, fits⟩) staged
  rw [wrote, stagePushed_of_fixed (s := s.port.stored (s.imageBytes lines)) sink] at port
  exact ⟨t, run, complete, rc, congrArg State.count port, congrArg State.out port⟩

/-- Settles O45: the lines after INIT, one by one up to the last one, and all of them together. -/
theorem imageIsEncodedToG4 : Obligations.ImageIsEncodedToG4 := by
  intro s width height bitOrder cap lines legal count size quiet fits
  have some := lines_ne_nil legal count
  have toCome := started_toCome (cap := cap) legal count size
  rw [← started_imageBytes s width height bitOrder 0 cap] at fits ⊢
  generalize hs : s.started (initCfg width height bitOrder 0 cap) = u at toCome fits ⊢
  obtain ⟨sink, capU, countU, quietU, rcU⟩ : u.cfg.sink = .fixed ∧ u.cfg.cap = cap ∧ u.count = 0 ∧ u.resetIn = none
      ∧ u.rc = .success := hs ▸ ⟨rfl, rfl, rfl, quiet, rfl⟩
  have zero : u.count.toNat = 0 := congrArg BitVec.toNat countU
  have fitsU : u.count.toNat + (u.imageBytes lines).length ≤ u.cfg.cap.toNat := by rwa [zero, capU, Nat.zero_add]
  obtain ⟨t, run, complete, rc, counted, stored⟩ := addLines_store toCome some sink quietU fitsU
  have total : t.count.toNat = (u.imageBytes lines).length := by
    have := cap.isLt
    rw [counted, toNat_add_ofNat (by omega), zero, Nat.zero_add]
  simp only [execAll_imageCommands legal, hs]
  refine ⟨fun k hk => ?_, t, run, complete, total, ?_⟩
  · obtain part | whole := hk.lt_or_eq
    · have toComeK : RowsToCome (lines.take k ++ lines.drop k) u := by rwa [List.take_append_drop]
      obtain ⟨v, taken⟩ := addLines_taken toComeK (List.drop_eq_nil_iff.not.2 (by omega))
        ((takes_fixed sink _).2 ⟨quietU, by rwa [List.take_append_drop]⟩)
      exact ⟨v, taken.run, taken.rc rcU⟩
    · rw [whole, List.take_length]
      exact ⟨t, run, rc⟩
  · rw [total, stored, zero, outPrefix_writeBytes]

/-! ### Without room -/

theorem writeBytes_append (m : Memory) (a : Nat) (vs ws : List Byte) :
    writeBytes m a (vs ++ ws) = writeBytes (writeBytes m a vs) (a + vs.length) ws := by
  induction vs generalizing m a with
  | nil => rfl
  | cons v vs ih => rw [List.cons_append, writeBytes, ih, writeBytes, List.length_cons, Nat.add_right_comm, Nat.add_assoc]

/-- The bytes `vs` have overflowed the fixed buffer of `s`: it holds the first of them, and the session has failed (R203,
R253). -/
structure Overflowed (vs : List Byte) (s t : State) : Prop where
  stateReg : t.stateReg = .failed
  err : t.err = .dataOverflow
  rc : t.rc = .dataOverflow
  count : t.count = s.cfg.cap
  out : t.out = writeBytes s.out s.count.toNat (vs.take (s.cfg.cap.toNat - s.count.toNat))

/-- The lines after the one that failed are refused, with the same result (R256). -/
theorem Overflowed.addLines {vs : List Byte} {s t : State} (h : Overflowed vs s t) (lines : List (List Byte)) :
    ∃ u, execAll (lines.map Instr.addLine) t = .next u ∧ Overflowed vs s u := by
  induction lines generalizing t with
  | nil => exact ⟨t, rfl, h⟩
  | cons line lines ih =>
    have refused : exec (.addLine line) t = .next (t.answer t.err 0) := by
      change execAddLine line t = _
      simp only [execAddLine, h.stateReg]
    obtain ⟨u, run, overflow⟩ := ih (t := t.answer t.err 0) ⟨h.stateReg, h.err, h.err, h.count, h.out⟩
    exact ⟨u, by rw [List.map_cons, execAll_cons refused, run], overflow⟩

/-- An overflow after the first bytes have been stored is one of all the bytes. -/
theorem Overflowed.after {vs ws : List Byte} {s u t : State} (h : Overflowed ws u t) (cfg : u.cfg = s.cfg)
    (count : u.count.toNat = s.count.toNat + vs.length) (room : s.count.toNat + vs.length ≤ s.cfg.cap.toNat)
    (out : u.out = writeBytes s.out s.count.toNat vs) : Overflowed (vs ++ ws) s t := by
  refine ⟨h.stateReg, h.err, h.rc, h.count.trans (by rw [cfg]), ?_⟩
  have all : vs.take (s.cfg.cap.toNat - s.count.toNat) = vs := List.take_of_length_le (by omega)
  rw [h.out, out, cfg, count, List.take_append, all, writeBytes_append, Nat.sub_add_eq]

theorem commandBytes_begins_imageBytes {s : State} {line : List Byte} {rest : List (List Byte)}
    (h : RowsToCome (line :: rest) s) : s.commandBytes line <+: s.imageBytes (line :: rest) := by
  by_cases last : s.rows + 1 = s.cfg.height
  · rw [commandBytes_last last, h.last_iff.1 last]
  · exact ⟨_, (imageBytes_cons last).symm⟩

/-- FIXED: an image whose bytes do not fit fails in one of its lines, by induction on the lines (R233). -/
theorem addLines_overflow {lines : List (List Byte)} {s : State} (h : RowsToCome lines s) (some : lines ≠ [])
    (sink : s.cfg.sink = .fixed) (quiet : s.resetIn = none) (fill : s.count.toNat ≤ s.cfg.cap.toNat)
    (tooMany : s.cfg.cap.toNat < s.count.toNat + (s.imageBytes lines).length) :
    ∃ t, execAll (lines.map Instr.addLine) s = .next t ∧ Overflowed (s.imageBytes lines) s t := by
  induction lines generalizing s with
  | nil => exact absurd rfl some
  | cons line rest ih =>
    rw [List.map_cons]
    by_cases here : s.cfg.cap.toNat < s.count.toNat + (s.commandBytes line).length
    · obtain ⟨t, run, ⟨failed, err, rc, -⟩, count, out, -⟩ := addLineOverflowKeepsWholeBytes line s h.accepting h.width
        (h.enough line List.mem_cons_self) h.reference h.clean sink quiet fill here
      obtain ⟨more, parts⟩ := commandBytes_begins_imageBytes h
      have overflow : Overflowed (s.imageBytes (line :: rest)) s t :=
        ⟨failed, err, rc, count, by rw [out, ← parts, List.take_append_of_le_length (by omega)]⟩
      rw [execAll_cons run]
      exact overflow.addLines rest
    · have room := Nat.not_lt.1 here
      have more : rest ≠ [] := fun none => by
        rw [commandBytes_last (h.last_iff.2 none), ← none] at here
        exact here tooMany
      obtain ⟨u, taken⟩ := addLine_taken h more ((takes_fixed sink _).2 ⟨quiet, room⟩)
      have port := taken.port.trans (wrote_fixed (s := s.port) sink _)
      have field {α : Type} (f : State → α) : f u.port = f (s.port.stored (s.commandBytes line)) := by rw [port]
      have cfg : u.cfg = s.cfg := field State.cfg
      have count : u.count.toNat = s.count.toNat + (s.commandBytes line).length := by
        have := s.cfg.cap.isLt
        rw [show u.count = s.count + BitVec.ofNat 32 _ from field State.count, toNat_add_ofNat (by omega)]
      rw [taken.bytes, List.length_append] at tooMany
      obtain ⟨t, run, overflow⟩ := ih taken.toCome more (by rwa [cfg]) ((field State.resetIn).trans quiet)
        (by rw [count, cfg]; exact room) (by rw [count, cfg]; omega)
      rw [execAll_cons taken.run, taken.bytes]
      exact ⟨t, run, overflow.after cfg count room (field State.out)⟩

/-- Settles O47: the buffer is empty after INIT, and the image overflows it. -/
theorem smallBufferHoldsPrefixOfG4 : Obligations.SmallBufferHoldsPrefixOfG4 := by
  intro s width height bitOrder cap lines legal count size quiet tooMany
  have toCome := started_toCome (cap := cap) legal count size
  have bytes := started_imageBytes s width height bitOrder 0 cap lines
  have overflows : cap.toNat < 0 + ((s.started (initCfg width height bitOrder 0 cap)).imageBytes lines).length := by
    rwa [bytes, Nat.zero_add]
  obtain ⟨t, run, overflow⟩ := addLines_overflow toCome (lines_ne_nil legal count) rfl quiet (Nat.zero_le _) overflows
  refine ⟨t, by rw [execAll_imageCommands legal, run], overflow.stateReg, overflow.err, overflow.rc, overflow.count, ?_⟩
  have out : t.out = writeBytes s.out 0 ((g4 s.params (bitOrderOf bitOrder) width.toNat lines).take cap.toNat) := by
    rw [overflow.out, bytes]
    rfl
  have held := outPrefix_writeBytes s.out ((g4 s.params (bitOrderOf bitOrder) width.toNat lines).take cap.toNat)
  rwa [List.length_take_of_le tooMany.le, ← out] at held

end Sys2Proof.Machine
end

section
/-! PROOFS. O46: an image streamed to a sink that answers OK (20_memory.md R63, 43_bitpacker.md R204 to R206,
44_session_commands.md R233). -/

namespace Sys2Proof.Machine

/-! ### All the segments of a stream -/

/-- The segments that bytes are cut into, with the last, shorter one that FLUSH_PARTIAL pushes (R204 to R206). -/
def allSegments (n : Nat) (vs : List Byte) : List (List Byte) :=
  (segmentsOf n [] vs).1 ++ if (segmentsOf n [] vs).2 = [] then [] else [(segmentsOf n [] vs).2]

theorem allSegments_flatten (n : Nat) (vs : List Byte) : (allSegments n vs).flatten = vs := by
  have cut := segmentsOf_flatten n [] vs
  rw [List.nil_append] at cut
  unfold allSegments
  split
  · rename_i none
    rw [none, List.append_nil] at cut
    rw [List.append_nil, cut]
  · rwa [List.flatten_append, List.flatten_singleton]

theorem allSegments_size {n : Nat} (pos : 1 ≤ n) {vs seg : List Byte} (h : seg ∈ allSegments n vs) :
    1 ≤ seg.length ∧ seg.length ≤ n := by
  obtain full | last := List.mem_append.1 h
  · have size := segmentsOf_full full
    omega
  · have short : (segmentsOf n [] vs).2.length < n := segmentsOf_staged vs pos
    split at last
    · cases last
    · rename_i some
      obtain rfl := List.mem_singleton.1 last
      exact ⟨List.length_pos_iff.2 some, short.le⟩

/-- No segment is empty, so that there are no more of them than bytes. -/
theorem allSegments_length_le {n : Nat} (pos : 1 ≤ n) (vs : List Byte) : (allSegments n vs).length ≤ vs.length := by
  have sizes := List.length_le_sum_of_one_le ((allSegments n vs).map List.length) fun k hk => by
    obtain ⟨seg, mem, rfl⟩ := List.mem_map.1 hk
    exact (allSegments_size pos mem).1
  rwa [List.length_map, ← List.length_flatten, allSegments_flatten] at sizes

/-! ### A sink that takes them -/

theorem repliesOk_of_replicate {s : State} {n k : Nat} (replies : s.sinkReplies = List.replicate n .ok) (le : k ≤ n) :
    s.repliesOk k = true := by
  rw [State.repliesOk, replies, List.take_replicate, Nat.min_eq_left le, beq_self_eq_true]

/-- With nothing staged before them, the bytes and then what stays staged of them are delivered in all their segments. -/
theorem wrote_stagePushed {s : State} (sink : s.cfg.sink = .stream) (empty : s.stg = []) (vs : List Byte) :
    (s.wrote vs).stagePushed = s.pushed (allSegments s.params.segSize vs) [] := by
  rw [wrote_stream sink, empty, allSegments]
  generalize segmentsOf s.params.segSize [] vs = cut
  by_cases none : cut.2 = []
  · have noPush : ¬ ((s.pushed cut.1 cut.2).cfg.sink = .stream ∧ (s.pushed cut.1 cut.2).stg ≠ []) :=
      fun push => push.2 none
    rw [State.stagePushed, if_neg noPush, if_pos none, List.append_nil, none]
  · have push : (s.pushed cut.1 cut.2).cfg.sink = .stream ∧ (s.pushed cut.1 cut.2).stg ≠ [] := ⟨sink, none⟩
    rw [State.stagePushed, if_pos push, if_neg none, pushed_stg, pushed_pushed]

/-- A sink with an OK for each byte to come takes them and what stays staged of them (R63). -/
theorem takes_stream_of_replies {s : State} {n : Nat} {vs : List Byte} (sink : s.cfg.sink = .stream)
    (pos : 1 ≤ s.params.segSize) (quiet : s.resetIn = none) (empty : s.stg = []) (begun : s.count = 0)
    (replies : s.sinkReplies = List.replicate n .ok) (enough : vs.length ≤ n) (fits : vs.length < 4294967296) :
    s.takes vs ∧ (s.wrote vs).takesStaged := by
  have total := congrArg List.length (segmentsOf_flatten s.params.segSize [] vs)
  rw [List.length_append, List.nil_append] at total
  have segs := (allSegments_length_le pos vs).trans enough
  rw [allSegments, List.length_append] at segs
  have zero : s.count.toNat = 0 := congrArg BitVec.toNat begun
  rw [takes_stream sink, wrote_stream sink, empty, zero, Nat.zero_add]
  refine ⟨⟨quiet, pos, repliesOk_of_replicate replies (by omega), by omega⟩, fun _ some => ?_⟩
  rw [pushed_stg] at some
  rw [if_neg some, List.length_singleton] at segs
  have left : (s.pushed (segmentsOf s.params.segSize [] vs).1 (segmentsOf s.params.segSize [] vs).2).sinkReplies
      = List.replicate (n - (segmentsOf s.params.segSize [] vs).1.length) .ok := by
    rw [pushed_sinkReplies, replies, List.drop_replicate]
  refine ⟨repliesOk_of_replicate left (by omega), ?_⟩
  rw [pushed_count, pushed_stg, toNat_add_ofNat (by omega), zero]
  omega

/-- Settles O46: with nothing staged after INIT, the image is delivered in all its segments. -/
theorem imageIsStreamedToG4 : Obligations.ImageIsStreamedToG4 := by
  intro s width height bitOrder cap lines n legal pos count size quiet replies enough fits
  have toCome := started_toCome (cap := cap) legal count size
  rw [← started_imageBytes s width height bitOrder 1 cap] at enough fits ⊢
  generalize hs : s.started (initCfg width height bitOrder 1 cap) = u at toCome enough fits ⊢
  obtain ⟨sink, params, empty, begun, quietU, repliesU, delivered, out⟩ : u.cfg.sink = .stream ∧ u.params = s.params
      ∧ u.stg = [] ∧ u.count = 0 ∧ u.resetIn = none ∧ u.sinkReplies = List.replicate n .ok ∧ u.delivered = s.delivered
      ∧ u.out = s.out := hs ▸ ⟨rfl, rfl, rfl, rfl, quiet, replies, rfl, rfl⟩
  rw [← params] at pos ⊢
  have zero : u.count.toNat = 0 := congrArg BitVec.toNat begun
  obtain ⟨takes, staged⟩ := takes_stream_of_replies (s := u.port) sink pos quietU empty begun repliesU enough fits
  obtain ⟨t, run, complete, rc, port⟩ := addLines_complete toCome (lines_ne_nil legal count) takes staged
  rw [wrote_stagePushed (s := u.port) sink empty] at port
  have field {α : Type} (f : State → α) :
      f t.port = f (u.port.pushed (allSegments u.params.segSize (u.imageBytes lines)) []) := by rw [port]; rfl
  have flatten := allSegments_flatten u.params.segSize (u.imageBytes lines)
  refine ⟨t, allSegments u.params.segSize (u.imageBytes lines), by rw [execAll_imageCommands legal, hs, run], complete, rc,
    ?_, ?_, flatten, fun seg => allSegments_size pos, ?_⟩
  · have counted : t.count = u.count + BitVec.ofNat 32 (allSegments _ _).flatten.length := field State.count
    rw [counted, flatten, toNat_add_ofNat (by omega), zero, Nat.zero_add]
  · rw [← delivered]
    exact field State.delivered
  · rw [← out]
    exact field State.out

end Sys2Proof.Machine
end

section
/-! PROOFS. O7, O8, O9: an ADD_LINE that meets no session, a finished image or a failed session (60_exceptions.md R251,
R254, R256). -/

namespace Sys2Proof.Machine

/-! ### The three branches of ADD_LINE that run no line -/

theorem exec_addLine_uninit {s : State} (h : s.stateReg = .uninit) (line : List Byte) :
    exec (.addLine line) s = .next (s.answer .notInitialized 0) := by
  change execAddLine line s = _
  simp only [execAddLine, h]

theorem exec_addLine_complete {s : State} (h : s.stateReg = .complete) (line : List Byte) :
    exec (.addLine line) s = .next (s.answer .imageComplete 0) := by
  change execAddLine line s = _
  simp only [execAddLine, h]

theorem exec_addLine_failed {s : State} (h : s.stateReg = .failed) (line : List Byte) :
    exec (.addLine line) s = .next (s.answer s.err 0) := by
  change execAddLine line s = _
  simp only [execAddLine, h]

/-! ### The statements -/

/-- Settles O7: the branch of UNINIT, and SUCCESS as the only code of the two GET commands. -/
theorem addLineNeedsSession : Obligations.AddLineNeedsSession := by
  refine ⟨fun line s uninit => exec_addLine_uninit uninit line, fun s t size => ?_, fun s t error => ?_⟩
  · cases (exec_getOutputSize s).symm.trans size
    rfl
  · cases (exec_getError s).symm.trans error
    rfl

/-- Settles O8, by the branch of COMPLETE. -/
theorem addLineAfterLastRow : Obligations.AddLineAfterLastRow :=
  fun line _ complete => exec_addLine_complete complete line

/-- The kinds that a session stores in ERR have the codes 3 and 5 (R256). -/
theorem SessionInv.errCode_failed {s : State} (inv : SessionInv s) (failed : s.stateReg = .failed) :
    errCode s.err = 3 ∨ errCode s.err = 5 := by
  obtain overflow | ioError := inv.errCause failed
  · exact .inl (congrArg errCode overflow)
  · exact .inr (congrArg errCode ioError)

/-- Settles O9: the branch of FAILED, whose result is the cause that the session invariant keeps in ERR. -/
theorem addLineInFailedReturnsStoredKind : Obligations.AddLineInFailedReturnsStoredKind := by
  refine ⟨fun line s failed => exec_addLine_failed failed line, fun line s t inv failed h => ?_⟩
  cases (exec_addLine_failed failed line).symm.trans h
  exact inv.errCode_failed failed

end Sys2Proof.Machine
end
